-- ==== Sys2Proof/Word.lean ====
section
/-! DEFINITION. The data and address words of the core (spec/00_scope.md R5 and R6): 8-bit registers and memory
bytes, 16-bit SP, PC and addresses. All values are unsigned, and bit 0 is the least significant bit. -/

namespace Sys2Proof

/-- A register or memory byte (R5 "data width", 8 bits; R6: bit 7 is the most significant). -/
abbrev Byte := BitVec 8

/-- A 16-bit address, register pair, SP or PC value (R5 "address width"). -/
abbrev Word := BitVec 16

end Sys2Proof
end

