-- ==== Sys2Proof/Syntax.lean ====
section
/-! DEFINITION. The instruction set: ONE constructor per row of spec/opcode_table.json (256 rows: 244 instructions
and the twelve UNIMPLEMENTED opcodes), its operand bytes as arguments (spec/30_encoding.md R301, R306), and the named
operand classes (R303 to R305) with, for each class, the constructors it selects. -/

namespace Sys2Proof

/-- The seven general registers (spec/10_state.md R100). -/
inductive Reg where
  | b | c | d | e | h | l | a
  deriving DecidableEq, Repr

/-- The three register pairs (spec/10_state.md R102). -/
inductive Pair where
  | bc | de | hl
  deriving DecidableEq, Repr

/-- The pairs LDAX and STAX may use (spec/30_encoding.md R304, third column). -/
inductive IdxPair where
  | bc | de
  deriving DecidableEq, Repr

/-- The 16-bit operands of LXI, INX, DCX and DAD (spec/30_encoding.md R304, first column). -/
inductive Rp where
  | bc | de | hl | sp
  deriving DecidableEq, Repr

/-- The source of a register-or-memory ALU form (spec/40_dispatch_alu.md R410): a register, or the memory operand M. -/
inductive Src where
  | reg (r : Reg)
  | m
  deriving DecidableEq, Repr

/-- The eight condition codes (spec/30_encoding.md R305). -/
inductive Cond where
  | nz | z | nc | c | po | pe | p | m
  deriving DecidableEq, Repr

/-- The eight ALU operations (spec/30_encoding.md R302, field `alu`). -/
inductive AluOp where
  | add | adc | sub | sbb | ana | xra | ora | cmp
  deriving DecidableEq, Repr

/-- The RST numbers 0 to 7 (spec/30_encoding.md R302, field `nnn`). -/
inductive RstNum where
  | n0 | n1 | n2 | n3 | n4 | n5 | n6 | n7
  deriving DecidableEq, Repr

/-- The instructions (spec/30_encoding.md R307), one constructor per opcode byte. An argument is the instruction's
operand: `d8` (byte 2), or `d16` or `a16` (byte 3 high, byte 2 low). -/
inductive Instr where
  -- Data transfer (spec/41_data_transfer.md)
  /-- LXI B,d16 (0x01, R505). -/
  | lxiB (d16 : Word)
  /-- STAX B (0x02, R511). -/
  | staxB
  /-- MVI B,d8 (0x06, R503). -/
  | mviB (d8 : Byte)
  /-- LDAX B (0x0A, R510). -/
  | ldaxB
  /-- MVI C,d8 (0x0E, R503). -/
  | mviC (d8 : Byte)
  /-- LXI D,d16 (0x11, R505). -/
  | lxiD (d16 : Word)
  /-- STAX D (0x12, R511). -/
  | staxD
  /-- MVI D,d8 (0x16, R503). -/
  | mviD (d8 : Byte)
  /-- LDAX D (0x1A, R510). -/
  | ldaxD
  /-- MVI E,d8 (0x1E, R503). -/
  | mviE (d8 : Byte)
  /-- LXI H,d16 (0x21, R505). -/
  | lxiH (d16 : Word)
  /-- SHLD a16 (0x22, R509). -/
  | shld (a16 : Word)
  /-- MVI H,d8 (0x26, R503). -/
  | mviH (d8 : Byte)
  /-- LHLD a16 (0x2A, R508). -/
  | lhld (a16 : Word)
  /-- MVI L,d8 (0x2E, R503). -/
  | mviL (d8 : Byte)
  /-- LXI SP,d16 (0x31, R505). -/
  | lxiSP (d16 : Word)
  /-- STA a16 (0x32, R507). -/
  | sta (a16 : Word)
  /-- MVI M,d8 (0x36, R504). -/
  | mviM (d8 : Byte)
  /-- LDA a16 (0x3A, R506). -/
  | lda (a16 : Word)
  /-- MVI A,d8 (0x3E, R503). -/
  | mviA (d8 : Byte)
  /-- MOV B,B (0x40, R500). -/
  | movBB
  /-- MOV B,C (0x41, R500). -/
  | movBC
  /-- MOV B,D (0x42, R500). -/
  | movBD
  /-- MOV B,E (0x43, R500). -/
  | movBE
  /-- MOV B,H (0x44, R500). -/
  | movBH
  /-- MOV B,L (0x45, R500). -/
  | movBL
  /-- MOV B,M (0x46, R501). -/
  | movBM
  /-- MOV B,A (0x47, R500). -/
  | movBA
  /-- MOV C,B (0x48, R500). -/
  | movCB
  /-- MOV C,C (0x49, R500). -/
  | movCC
  /-- MOV C,D (0x4A, R500). -/
  | movCD
  /-- MOV C,E (0x4B, R500). -/
  | movCE
  /-- MOV C,H (0x4C, R500). -/
  | movCH
  /-- MOV C,L (0x4D, R500). -/
  | movCL
  /-- MOV C,M (0x4E, R501). -/
  | movCM
  /-- MOV C,A (0x4F, R500). -/
  | movCA
  /-- MOV D,B (0x50, R500). -/
  | movDB
  /-- MOV D,C (0x51, R500). -/
  | movDC
  /-- MOV D,D (0x52, R500). -/
  | movDD
  /-- MOV D,E (0x53, R500). -/
  | movDE
  /-- MOV D,H (0x54, R500). -/
  | movDH
  /-- MOV D,L (0x55, R500). -/
  | movDL
  /-- MOV D,M (0x56, R501). -/
  | movDM
  /-- MOV D,A (0x57, R500). -/
  | movDA
  /-- MOV E,B (0x58, R500). -/
  | movEB
  /-- MOV E,C (0x59, R500). -/
  | movEC
  /-- MOV E,D (0x5A, R500). -/
  | movED
  /-- MOV E,E (0x5B, R500). -/
  | movEE
  /-- MOV E,H (0x5C, R500). -/
  | movEH
  /-- MOV E,L (0x5D, R500). -/
  | movEL
  /-- MOV E,M (0x5E, R501). -/
  | movEM
  /-- MOV E,A (0x5F, R500). -/
  | movEA
  /-- MOV H,B (0x60, R500). -/
  | movHB
  /-- MOV H,C (0x61, R500). -/
  | movHC
  /-- MOV H,D (0x62, R500). -/
  | movHD
  /-- MOV H,E (0x63, R500). -/
  | movHE
  /-- MOV H,H (0x64, R500). -/
  | movHH
  /-- MOV H,L (0x65, R500). -/
  | movHL
  /-- MOV H,M (0x66, R501). -/
  | movHM
  /-- MOV H,A (0x67, R500). -/
  | movHA
  /-- MOV L,B (0x68, R500). -/
  | movLB
  /-- MOV L,C (0x69, R500). -/
  | movLC
  /-- MOV L,D (0x6A, R500). -/
  | movLD
  /-- MOV L,E (0x6B, R500). -/
  | movLE
  /-- MOV L,H (0x6C, R500). -/
  | movLH
  /-- MOV L,L (0x6D, R500). -/
  | movLL
  /-- MOV L,M (0x6E, R501). -/
  | movLM
  /-- MOV L,A (0x6F, R500). -/
  | movLA
  /-- MOV M,B (0x70, R502). -/
  | movMB
  /-- MOV M,C (0x71, R502). -/
  | movMC
  /-- MOV M,D (0x72, R502). -/
  | movMD
  /-- MOV M,E (0x73, R502). -/
  | movME
  /-- MOV M,H (0x74, R502). -/
  | movMH
  /-- MOV M,L (0x75, R502). -/
  | movML
  /-- MOV M,A (0x77, R502). -/
  | movMA
  /-- MOV A,B (0x78, R500). -/
  | movAB
  /-- MOV A,C (0x79, R500). -/
  | movAC
  /-- MOV A,D (0x7A, R500). -/
  | movAD
  /-- MOV A,E (0x7B, R500). -/
  | movAE
  /-- MOV A,H (0x7C, R500). -/
  | movAH
  /-- MOV A,L (0x7D, R500). -/
  | movAL
  /-- MOV A,M (0x7E, R501). -/
  | movAM
  /-- MOV A,A (0x7F, R500). -/
  | movAA
  /-- XCHG (0xEB, R512). -/
  | xchg
  -- Arithmetic (spec/42_arithmetic.md)
  /-- INX B (0x03, R616). -/
  | inxB
  /-- INR B (0x04, R612). -/
  | inrB
  /-- DCR B (0x05, R614). -/
  | dcrB
  /-- DAD B (0x09, R618). -/
  | dadB
  /-- DCX B (0x0B, R617). -/
  | dcxB
  /-- INR C (0x0C, R612). -/
  | inrC
  /-- DCR C (0x0D, R614). -/
  | dcrC
  /-- INX D (0x13, R616). -/
  | inxD
  /-- INR D (0x14, R612). -/
  | inrD
  /-- DCR D (0x15, R614). -/
  | dcrD
  /-- DAD D (0x19, R618). -/
  | dadD
  /-- DCX D (0x1B, R617). -/
  | dcxD
  /-- INR E (0x1C, R612). -/
  | inrE
  /-- DCR E (0x1D, R614). -/
  | dcrE
  /-- INX H (0x23, R616). -/
  | inxH
  /-- INR H (0x24, R612). -/
  | inrH
  /-- DCR H (0x25, R614). -/
  | dcrH
  /-- DAA (0x27, R619). -/
  | daa
  /-- DAD H (0x29, R618). -/
  | dadH
  /-- DCX H (0x2B, R617). -/
  | dcxH
  /-- INR L (0x2C, R612). -/
  | inrL
  /-- DCR L (0x2D, R614). -/
  | dcrL
  /-- INX SP (0x33, R616). -/
  | inxSP
  /-- INR M (0x34, R613). -/
  | inrM
  /-- DCR M (0x35, R615). -/
  | dcrM
  /-- DAD SP (0x39, R618). -/
  | dadSP
  /-- DCX SP (0x3B, R617). -/
  | dcxSP
  /-- INR A (0x3C, R612). -/
  | inrA
  /-- DCR A (0x3D, R614). -/
  | dcrA
  /-- ADD B (0x80, R600). -/
  | addB
  /-- ADD C (0x81, R600). -/
  | addC
  /-- ADD D (0x82, R600). -/
  | addD
  /-- ADD E (0x83, R600). -/
  | addE
  /-- ADD H (0x84, R600). -/
  | addH
  /-- ADD L (0x85, R600). -/
  | addL
  /-- ADD M (0x86, R601). -/
  | addM
  /-- ADD A (0x87, R600). -/
  | addA
  /-- ADC B (0x88, R603). -/
  | adcB
  /-- ADC C (0x89, R603). -/
  | adcC
  /-- ADC D (0x8A, R603). -/
  | adcD
  /-- ADC E (0x8B, R603). -/
  | adcE
  /-- ADC H (0x8C, R603). -/
  | adcH
  /-- ADC L (0x8D, R603). -/
  | adcL
  /-- ADC M (0x8E, R604). -/
  | adcM
  /-- ADC A (0x8F, R603). -/
  | adcA
  /-- SUB B (0x90, R606). -/
  | subB
  /-- SUB C (0x91, R606). -/
  | subC
  /-- SUB D (0x92, R606). -/
  | subD
  /-- SUB E (0x93, R606). -/
  | subE
  /-- SUB H (0x94, R606). -/
  | subH
  /-- SUB L (0x95, R606). -/
  | subL
  /-- SUB M (0x96, R607). -/
  | subM
  /-- SUB A (0x97, R606). -/
  | subA
  /-- SBB B (0x98, R609). -/
  | sbbB
  /-- SBB C (0x99, R609). -/
  | sbbC
  /-- SBB D (0x9A, R609). -/
  | sbbD
  /-- SBB E (0x9B, R609). -/
  | sbbE
  /-- SBB H (0x9C, R609). -/
  | sbbH
  /-- SBB L (0x9D, R609). -/
  | sbbL
  /-- SBB M (0x9E, R610). -/
  | sbbM
  /-- SBB A (0x9F, R609). -/
  | sbbA
  /-- ADI d8 (0xC6, R602). -/
  | adi (d8 : Byte)
  /-- ACI d8 (0xCE, R605). -/
  | aci (d8 : Byte)
  /-- SUI d8 (0xD6, R608). -/
  | sui (d8 : Byte)
  /-- SBI d8 (0xDE, R611). -/
  | sbi (d8 : Byte)
  -- Logical, compare, rotate and carry (spec/43_logical.md)
  /-- RLC (0x07, R712). -/
  | rlc
  /-- RRC (0x0F, R713). -/
  | rrc
  /-- RAL (0x17, R714). -/
  | ral
  /-- RAR (0x1F, R715). -/
  | rar
  /-- CMA (0x2F, R716). -/
  | cma
  /-- STC (0x37, R717). -/
  | stc
  /-- CMC (0x3F, R718). -/
  | cmc
  /-- ANA B (0xA0, R700). -/
  | anaB
  /-- ANA C (0xA1, R700). -/
  | anaC
  /-- ANA D (0xA2, R700). -/
  | anaD
  /-- ANA E (0xA3, R700). -/
  | anaE
  /-- ANA H (0xA4, R700). -/
  | anaH
  /-- ANA L (0xA5, R700). -/
  | anaL
  /-- ANA M (0xA6, R701). -/
  | anaM
  /-- ANA A (0xA7, R700). -/
  | anaA
  /-- XRA B (0xA8, R703). -/
  | xraB
  /-- XRA C (0xA9, R703). -/
  | xraC
  /-- XRA D (0xAA, R703). -/
  | xraD
  /-- XRA E (0xAB, R703). -/
  | xraE
  /-- XRA H (0xAC, R703). -/
  | xraH
  /-- XRA L (0xAD, R703). -/
  | xraL
  /-- XRA M (0xAE, R704). -/
  | xraM
  /-- XRA A (0xAF, R703). -/
  | xraA
  /-- ORA B (0xB0, R706). -/
  | oraB
  /-- ORA C (0xB1, R706). -/
  | oraC
  /-- ORA D (0xB2, R706). -/
  | oraD
  /-- ORA E (0xB3, R706). -/
  | oraE
  /-- ORA H (0xB4, R706). -/
  | oraH
  /-- ORA L (0xB5, R706). -/
  | oraL
  /-- ORA M (0xB6, R707). -/
  | oraM
  /-- ORA A (0xB7, R706). -/
  | oraA
  /-- CMP B (0xB8, R709). -/
  | cmpB
  /-- CMP C (0xB9, R709). -/
  | cmpC
  /-- CMP D (0xBA, R709). -/
  | cmpD
  /-- CMP E (0xBB, R709). -/
  | cmpE
  /-- CMP H (0xBC, R709). -/
  | cmpH
  /-- CMP L (0xBD, R709). -/
  | cmpL
  /-- CMP M (0xBE, R710). -/
  | cmpM
  /-- CMP A (0xBF, R709). -/
  | cmpA
  /-- ANI d8 (0xE6, R702). -/
  | ani (d8 : Byte)
  /-- XRI d8 (0xEE, R705). -/
  | xri (d8 : Byte)
  /-- ORI d8 (0xF6, R708). -/
  | ori (d8 : Byte)
  /-- CPI d8 (0xFE, R711). -/
  | cpi (d8 : Byte)
  -- Stack (spec/44_stack.md)
  /-- POP B (0xC1, R806). -/
  | popB
  /-- PUSH B (0xC5, R804). -/
  | pushB
  /-- POP D (0xD1, R806). -/
  | popD
  /-- PUSH D (0xD5, R804). -/
  | pushD
  /-- POP H (0xE1, R806). -/
  | popH
  /-- XTHL (0xE3, R808). -/
  | xthl
  /-- PUSH H (0xE5, R804). -/
  | pushH
  /-- POP PSW (0xF1, R807). -/
  | popPSW
  /-- PUSH PSW (0xF5, R805). -/
  | pushPSW
  /-- SPHL (0xF9, R809). -/
  | sphl
  -- Branch (spec/45_branch.md)
  /-- RNZ (0xC0, R922). -/
  | rnz
  /-- JNZ a16 (0xC2, R902). -/
  | jnz (a16 : Word)
  /-- JMP a16 (0xC3, R900). -/
  | jmp (a16 : Word)
  /-- CNZ a16 (0xC4, R912). -/
  | cnz (a16 : Word)
  /-- RST 0 (0xC7, R930). -/
  | rst0
  /-- RZ (0xC8, R923). -/
  | rz
  /-- RET (0xC9, R920). -/
  | ret
  /-- JZ a16 (0xCA, R903). -/
  | jz (a16 : Word)
  /-- CZ a16 (0xCC, R913). -/
  | cz (a16 : Word)
  /-- CALL a16 (0xCD, R910). -/
  | call (a16 : Word)
  /-- RST 1 (0xCF, R930). -/
  | rst1
  /-- RNC (0xD0, R924). -/
  | rnc
  /-- JNC a16 (0xD2, R904). -/
  | jnc (a16 : Word)
  /-- CNC a16 (0xD4, R914). -/
  | cnc (a16 : Word)
  /-- RST 2 (0xD7, R930). -/
  | rst2
  /-- RC (0xD8, R925). -/
  | rc
  /-- JC a16 (0xDA, R905). -/
  | jc (a16 : Word)
  /-- CC a16 (0xDC, R915). -/
  | cc (a16 : Word)
  /-- RST 3 (0xDF, R930). -/
  | rst3
  /-- RPO (0xE0, R926). -/
  | rpo
  /-- JPO a16 (0xE2, R906). -/
  | jpo (a16 : Word)
  /-- CPO a16 (0xE4, R916). -/
  | cpo (a16 : Word)
  /-- RST 4 (0xE7, R930). -/
  | rst4
  /-- RPE (0xE8, R927). -/
  | rpe
  /-- PCHL (0xE9, R931). -/
  | pchl
  /-- JPE a16 (0xEA, R907). -/
  | jpe (a16 : Word)
  /-- CPE a16 (0xEC, R917). -/
  | cpe (a16 : Word)
  /-- RST 5 (0xEF, R930). -/
  | rst5
  /-- RP (0xF0, R928). -/
  | rp
  /-- JP a16 (0xF2, R908). -/
  | jp (a16 : Word)
  /-- CP a16 (0xF4, R918). -/
  | cp (a16 : Word)
  /-- RST 6 (0xF7, R930). -/
  | rst6
  /-- RM (0xF8, R929). -/
  | rm
  /-- JM a16 (0xFA, R909). -/
  | jm (a16 : Word)
  /-- CM a16 (0xFC, R919). -/
  | cm (a16 : Word)
  /-- RST 7 (0xFF, R930). -/
  | rst7
  -- I/O (spec/46_io.md)
  /-- OUT d8 (0xD3, R1001). -/
  | out (d8 : Byte)
  /-- IN d8 (0xDB, R1000). -/
  | inp (d8 : Byte)
  -- Special (spec/47_special.md)
  /-- NOP (0x00, R1100). -/
  | nop
  /-- The opcode 0x08 without a handler (0x08, R1104). -/
  | unimpl08
  /-- The opcode 0x10 without a handler (0x10, R1104). -/
  | unimpl10
  /-- The opcode 0x18 without a handler (0x18, R1104). -/
  | unimpl18
  /-- The opcode 0x20 without a handler (0x20, R1104). -/
  | unimpl20
  /-- The opcode 0x28 without a handler (0x28, R1104). -/
  | unimpl28
  /-- The opcode 0x30 without a handler (0x30, R1104). -/
  | unimpl30
  /-- The opcode 0x38 without a handler (0x38, R1104). -/
  | unimpl38
  /-- HLT (0x76, R1101). -/
  | hlt
  /-- The opcode 0xCB without a handler (0xCB, R1104). -/
  | unimplCB
  /-- The opcode 0xD9 without a handler (0xD9, R1104). -/
  | unimplD9
  /-- The opcode 0xDD without a handler (0xDD, R1104). -/
  | unimplDD
  /-- The opcode 0xED without a handler (0xED, R1104). -/
  | unimplED
  /-- DI (0xF3, R1103). -/
  | di
  /-- EI (0xFB, R1102). -/
  | ei
  /-- The opcode 0xFD without a handler (0xFD, R1104). -/
  | unimplFD
  deriving DecidableEq, Repr

namespace Instr

/-- MOV d,s for two registers (R500). -/
def movRR : Reg → Reg → Instr
  | .b, .b => .movBB
  | .b, .c => .movBC
  | .b, .d => .movBD
  | .b, .e => .movBE
  | .b, .h => .movBH
  | .b, .l => .movBL
  | .b, .a => .movBA
  | .c, .b => .movCB
  | .c, .c => .movCC
  | .c, .d => .movCD
  | .c, .e => .movCE
  | .c, .h => .movCH
  | .c, .l => .movCL
  | .c, .a => .movCA
  | .d, .b => .movDB
  | .d, .c => .movDC
  | .d, .d => .movDD
  | .d, .e => .movDE
  | .d, .h => .movDH
  | .d, .l => .movDL
  | .d, .a => .movDA
  | .e, .b => .movEB
  | .e, .c => .movEC
  | .e, .d => .movED
  | .e, .e => .movEE
  | .e, .h => .movEH
  | .e, .l => .movEL
  | .e, .a => .movEA
  | .h, .b => .movHB
  | .h, .c => .movHC
  | .h, .d => .movHD
  | .h, .e => .movHE
  | .h, .h => .movHH
  | .h, .l => .movHL
  | .h, .a => .movHA
  | .l, .b => .movLB
  | .l, .c => .movLC
  | .l, .d => .movLD
  | .l, .e => .movLE
  | .l, .h => .movLH
  | .l, .l => .movLL
  | .l, .a => .movLA
  | .a, .b => .movAB
  | .a, .c => .movAC
  | .a, .d => .movAD
  | .a, .e => .movAE
  | .a, .h => .movAH
  | .a, .l => .movAL
  | .a, .a => .movAA

/-- MOV d,M (R501). -/
def movRM : Reg → Instr
  | .b => .movBM
  | .c => .movCM
  | .d => .movDM
  | .e => .movEM
  | .h => .movHM
  | .l => .movLM
  | .a => .movAM

/-- MOV M,s (R502). -/
def movMR : Reg → Instr
  | .b => .movMB
  | .c => .movMC
  | .d => .movMD
  | .e => .movME
  | .h => .movMH
  | .l => .movML
  | .a => .movMA

/-- MVI d,d8 (R503). -/
def mviR : Reg → Byte → Instr
  | .b, v => .mviB v
  | .c, v => .mviC v
  | .d, v => .mviD v
  | .e, v => .mviE v
  | .h, v => .mviH v
  | .l, v => .mviL v
  | .a, v => .mviA v

/-- INR d (R612). -/
def inrR : Reg → Instr
  | .b => .inrB
  | .c => .inrC
  | .d => .inrD
  | .e => .inrE
  | .h => .inrH
  | .l => .inrL
  | .a => .inrA

/-- DCR d (R614). -/
def dcrR : Reg → Instr
  | .b => .dcrB
  | .c => .dcrC
  | .d => .dcrD
  | .e => .dcrE
  | .h => .dcrH
  | .l => .dcrL
  | .a => .dcrA

/-- LXI rp,d16 (R505). -/
def lxi : Rp → Word → Instr
  | .bc, w => .lxiB w
  | .de, w => .lxiD w
  | .hl, w => .lxiH w
  | .sp, w => .lxiSP w

/-- INX rp (R616). -/
def inx : Rp → Instr
  | .bc => .inxB
  | .de => .inxD
  | .hl => .inxH
  | .sp => .inxSP

/-- DCX rp (R617). -/
def dcx : Rp → Instr
  | .bc => .dcxB
  | .de => .dcxD
  | .hl => .dcxH
  | .sp => .dcxSP

/-- DAD rp (R618). -/
def dad : Rp → Instr
  | .bc => .dadB
  | .de => .dadD
  | .hl => .dadH
  | .sp => .dadSP

/-- LDAX rp (R510). -/
def ldax : IdxPair → Instr
  | .bc => .ldaxB
  | .de => .ldaxD

/-- STAX rp (R511). -/
def stax : IdxPair → Instr
  | .bc => .staxB
  | .de => .staxD

/-- PUSH rp (R804). -/
def push : Pair → Instr
  | .bc => .pushB
  | .de => .pushD
  | .hl => .pushH

/-- POP rp (R806). -/
def pop : Pair → Instr
  | .bc => .popB
  | .de => .popD
  | .hl => .popH

/-- The register and memory ALU forms (R600 to R610, R700 to R710). -/
def alu : AluOp → Src → Instr
  | .add, .reg .b => .addB
  | .add, .reg .c => .addC
  | .add, .reg .d => .addD
  | .add, .reg .e => .addE
  | .add, .reg .h => .addH
  | .add, .reg .l => .addL
  | .add, .reg .a => .addA
  | .adc, .reg .b => .adcB
  | .adc, .reg .c => .adcC
  | .adc, .reg .d => .adcD
  | .adc, .reg .e => .adcE
  | .adc, .reg .h => .adcH
  | .adc, .reg .l => .adcL
  | .adc, .reg .a => .adcA
  | .sub, .reg .b => .subB
  | .sub, .reg .c => .subC
  | .sub, .reg .d => .subD
  | .sub, .reg .e => .subE
  | .sub, .reg .h => .subH
  | .sub, .reg .l => .subL
  | .sub, .reg .a => .subA
  | .sbb, .reg .b => .sbbB
  | .sbb, .reg .c => .sbbC
  | .sbb, .reg .d => .sbbD
  | .sbb, .reg .e => .sbbE
  | .sbb, .reg .h => .sbbH
  | .sbb, .reg .l => .sbbL
  | .sbb, .reg .a => .sbbA
  | .ana, .reg .b => .anaB
  | .ana, .reg .c => .anaC
  | .ana, .reg .d => .anaD
  | .ana, .reg .e => .anaE
  | .ana, .reg .h => .anaH
  | .ana, .reg .l => .anaL
  | .ana, .reg .a => .anaA
  | .xra, .reg .b => .xraB
  | .xra, .reg .c => .xraC
  | .xra, .reg .d => .xraD
  | .xra, .reg .e => .xraE
  | .xra, .reg .h => .xraH
  | .xra, .reg .l => .xraL
  | .xra, .reg .a => .xraA
  | .ora, .reg .b => .oraB
  | .ora, .reg .c => .oraC
  | .ora, .reg .d => .oraD
  | .ora, .reg .e => .oraE
  | .ora, .reg .h => .oraH
  | .ora, .reg .l => .oraL
  | .ora, .reg .a => .oraA
  | .cmp, .reg .b => .cmpB
  | .cmp, .reg .c => .cmpC
  | .cmp, .reg .d => .cmpD
  | .cmp, .reg .e => .cmpE
  | .cmp, .reg .h => .cmpH
  | .cmp, .reg .l => .cmpL
  | .cmp, .reg .a => .cmpA
  | .add, .m => .addM
  | .adc, .m => .adcM
  | .sub, .m => .subM
  | .sbb, .m => .sbbM
  | .ana, .m => .anaM
  | .xra, .m => .xraM
  | .ora, .m => .oraM
  | .cmp, .m => .cmpM

/-- The immediate ALU forms (R602 to R611, R702 to R711). -/
def aluI : AluOp → Byte → Instr
  | .add, v => .adi v
  | .adc, v => .aci v
  | .sub, v => .sui v
  | .sbb, v => .sbi v
  | .ana, v => .ani v
  | .xra, v => .xri v
  | .ora, v => .ori v
  | .cmp, v => .cpi v

/-- The conditional jumps (R901 to R909). -/
def jcc : Cond → Word → Instr
  | .nz, w => .jnz w
  | .z, w => .jz w
  | .nc, w => .jnc w
  | .c, w => .jc w
  | .po, w => .jpo w
  | .pe, w => .jpe w
  | .p, w => .jp w
  | .m, w => .jm w

/-- The conditional calls (R911 to R919). -/
def ccc : Cond → Word → Instr
  | .nz, w => .cnz w
  | .z, w => .cz w
  | .nc, w => .cnc w
  | .c, w => .cc w
  | .po, w => .cpo w
  | .pe, w => .cpe w
  | .p, w => .cp w
  | .m, w => .cm w

/-- The conditional returns (R921 to R929). -/
def rcc : Cond → Instr
  | .nz => .rnz
  | .z => .rz
  | .nc => .rnc
  | .c => .rc
  | .po => .rpo
  | .pe => .rpe
  | .p => .rp
  | .m => .rm

/-- RST n (R930). -/
def rst : RstNum → Instr
  | .n0 => .rst0
  | .n1 => .rst1
  | .n2 => .rst2
  | .n3 => .rst3
  | .n4 => .rst4
  | .n5 => .rst5
  | .n6 => .rst6
  | .n7 => .rst7

end Instr

/-- The twelve opcodes without a handler (spec/30_encoding.md R308). -/
inductive BadOpcode where
  | o08 | o10 | o18 | o20 | o28 | o30 | o38 | oCB | oD9 | oDD | oED | oFD
  deriving DecidableEq, Repr

/-- The instruction term of an opcode without a handler (spec/47_special.md R1104). -/
def Instr.unimpl : BadOpcode → Instr
  | .o08 => .unimpl08
  | .o10 => .unimpl10
  | .o18 => .unimpl18
  | .o20 => .unimpl20
  | .o28 => .unimpl28
  | .o30 => .unimpl30
  | .o38 => .unimpl38
  | .oCB => .unimplCB
  | .oD9 => .unimplD9
  | .oDD => .unimplDD
  | .oED => .unimplED
  | .oFD => .unimplFD

/-- The opcode byte of an opcode without a handler (spec/30_encoding.md R308). -/
def BadOpcode.byte : BadOpcode → Byte
  | .o08 => 0x08
  | .o10 => 0x10
  | .o18 => 0x18
  | .o20 => 0x20
  | .o28 => 0x28
  | .o30 => 0x30
  | .o38 => 0x38
  | .oCB => 0xCB
  | .oD9 => 0xD9
  | .oDD => 0xDD
  | .oED => 0xED
  | .oFD => 0xFD

end Sys2Proof
end

