-- ==== Sys2Proof/Decode.lean ====
section
/-! DEFINITION. Decoding and encoding (spec/30_encoding.md). The decoder is the 256-entry opcode map of R307, read by
the opcode byte alone (R311); the encoder assembles each opcode from its fields (R302 to R305), so the two are written
from different tables of the spec. The byte-order helpers of R6, R7 and R306 stand here too. -/

namespace Sys2Proof

/-- `cat(hi, lo) = hi * 256 + lo` (R7). -/
def cat (hi lo : Byte) : Word := BitVec.ofNat 16 (hi.toNat * 256 + lo.toNat)

/-- `v[15:8]` (R6). -/
def hi8 (w : Word) : Byte := BitVec.ofNat 8 (w.toNat / 256)

/-- `v[7:0]` (R6). -/
def lo8 (w : Word) : Byte := BitVec.ofNat 8 w.toNat

/-- What an opcode byte announces (R301): a whole instruction (F1), one that takes a byte `d8` (F2), or one that takes
a 16-bit operand, low byte first (F3). -/
inductive Shape where
  | f1 (i : Instr)
  | f2 (f : Byte → Instr)
  | f3 (f : Word → Instr)

/-- Row 0x of the opcode map (R307). -/
def opRow0 : List Shape :=
  [.f1 .nop, .f3 .lxiB, .f1 .staxB, .f1 .inxB, .f1 .inrB, .f1 .dcrB, .f2 .mviB, .f1 .rlc,
   .f1 .unimpl08, .f1 .dadB, .f1 .ldaxB, .f1 .dcxB, .f1 .inrC, .f1 .dcrC, .f2 .mviC, .f1 .rrc]

/-- Row 1x of the opcode map (R307). -/
def opRow1 : List Shape :=
  [.f1 .unimpl10, .f3 .lxiD, .f1 .staxD, .f1 .inxD, .f1 .inrD, .f1 .dcrD, .f2 .mviD, .f1 .ral,
   .f1 .unimpl18, .f1 .dadD, .f1 .ldaxD, .f1 .dcxD, .f1 .inrE, .f1 .dcrE, .f2 .mviE, .f1 .rar]

/-- Row 2x of the opcode map (R307). -/
def opRow2 : List Shape :=
  [.f1 .unimpl20, .f3 .lxiH, .f3 .shld, .f1 .inxH, .f1 .inrH, .f1 .dcrH, .f2 .mviH, .f1 .daa,
   .f1 .unimpl28, .f1 .dadH, .f3 .lhld, .f1 .dcxH, .f1 .inrL, .f1 .dcrL, .f2 .mviL, .f1 .cma]

/-- Row 3x of the opcode map (R307). -/
def opRow3 : List Shape :=
  [.f1 .unimpl30, .f3 .lxiSP, .f3 .sta, .f1 .inxSP, .f1 .inrM, .f1 .dcrM, .f2 .mviM, .f1 .stc,
   .f1 .unimpl38, .f1 .dadSP, .f3 .lda, .f1 .dcxSP, .f1 .inrA, .f1 .dcrA, .f2 .mviA, .f1 .cmc]

/-- Row 4x of the opcode map (R307). -/
def opRow4 : List Shape :=
  [.f1 .movBB, .f1 .movBC, .f1 .movBD, .f1 .movBE, .f1 .movBH, .f1 .movBL, .f1 .movBM, .f1 .movBA,
   .f1 .movCB, .f1 .movCC, .f1 .movCD, .f1 .movCE, .f1 .movCH, .f1 .movCL, .f1 .movCM, .f1 .movCA]

/-- Row 5x of the opcode map (R307). -/
def opRow5 : List Shape :=
  [.f1 .movDB, .f1 .movDC, .f1 .movDD, .f1 .movDE, .f1 .movDH, .f1 .movDL, .f1 .movDM, .f1 .movDA,
   .f1 .movEB, .f1 .movEC, .f1 .movED, .f1 .movEE, .f1 .movEH, .f1 .movEL, .f1 .movEM, .f1 .movEA]

/-- Row 6x of the opcode map (R307). -/
def opRow6 : List Shape :=
  [.f1 .movHB, .f1 .movHC, .f1 .movHD, .f1 .movHE, .f1 .movHH, .f1 .movHL, .f1 .movHM, .f1 .movHA,
   .f1 .movLB, .f1 .movLC, .f1 .movLD, .f1 .movLE, .f1 .movLH, .f1 .movLL, .f1 .movLM, .f1 .movLA]

/-- Row 7x of the opcode map (R307). -/
def opRow7 : List Shape :=
  [.f1 .movMB, .f1 .movMC, .f1 .movMD, .f1 .movME, .f1 .movMH, .f1 .movML, .f1 .hlt, .f1 .movMA,
   .f1 .movAB, .f1 .movAC, .f1 .movAD, .f1 .movAE, .f1 .movAH, .f1 .movAL, .f1 .movAM, .f1 .movAA]

/-- Row 8x of the opcode map (R307). -/
def opRow8 : List Shape :=
  [.f1 .addB, .f1 .addC, .f1 .addD, .f1 .addE, .f1 .addH, .f1 .addL, .f1 .addM, .f1 .addA,
   .f1 .adcB, .f1 .adcC, .f1 .adcD, .f1 .adcE, .f1 .adcH, .f1 .adcL, .f1 .adcM, .f1 .adcA]

/-- Row 9x of the opcode map (R307). -/
def opRow9 : List Shape :=
  [.f1 .subB, .f1 .subC, .f1 .subD, .f1 .subE, .f1 .subH, .f1 .subL, .f1 .subM, .f1 .subA,
   .f1 .sbbB, .f1 .sbbC, .f1 .sbbD, .f1 .sbbE, .f1 .sbbH, .f1 .sbbL, .f1 .sbbM, .f1 .sbbA]

/-- Row Ax of the opcode map (R307). -/
def opRowA : List Shape :=
  [.f1 .anaB, .f1 .anaC, .f1 .anaD, .f1 .anaE, .f1 .anaH, .f1 .anaL, .f1 .anaM, .f1 .anaA,
   .f1 .xraB, .f1 .xraC, .f1 .xraD, .f1 .xraE, .f1 .xraH, .f1 .xraL, .f1 .xraM, .f1 .xraA]

/-- Row Bx of the opcode map (R307). -/
def opRowB : List Shape :=
  [.f1 .oraB, .f1 .oraC, .f1 .oraD, .f1 .oraE, .f1 .oraH, .f1 .oraL, .f1 .oraM, .f1 .oraA,
   .f1 .cmpB, .f1 .cmpC, .f1 .cmpD, .f1 .cmpE, .f1 .cmpH, .f1 .cmpL, .f1 .cmpM, .f1 .cmpA]

/-- Row Cx of the opcode map (R307). -/
def opRowC : List Shape :=
  [.f1 .rnz, .f1 .popB, .f3 .jnz, .f3 .jmp, .f3 .cnz, .f1 .pushB, .f2 .adi, .f1 .rst0,
   .f1 .rz, .f1 .ret, .f3 .jz, .f1 .unimplCB, .f3 .cz, .f3 .call, .f2 .aci, .f1 .rst1]

/-- Row Dx of the opcode map (R307). -/
def opRowD : List Shape :=
  [.f1 .rnc, .f1 .popD, .f3 .jnc, .f2 .out, .f3 .cnc, .f1 .pushD, .f2 .sui, .f1 .rst2,
   .f1 .rc, .f1 .unimplD9, .f3 .jc, .f2 .inp, .f3 .cc, .f1 .unimplDD, .f2 .sbi, .f1 .rst3]

/-- Row Ex of the opcode map (R307). -/
def opRowE : List Shape :=
  [.f1 .rpo, .f1 .popH, .f3 .jpo, .f1 .xthl, .f3 .cpo, .f1 .pushH, .f2 .ani, .f1 .rst4,
   .f1 .rpe, .f1 .pchl, .f3 .jpe, .f1 .xchg, .f3 .cpe, .f1 .unimplED, .f2 .xri, .f1 .rst5]

/-- Row Fx of the opcode map (R307). -/
def opRowF : List Shape :=
  [.f1 .rp, .f1 .popPSW, .f3 .jp, .f1 .di, .f3 .cp, .f1 .pushPSW, .f2 .ori, .f1 .rst6,
   .f1 .rm, .f1 .sphl, .f3 .jm, .f1 .ei, .f3 .cm, .f1 .unimplFD, .f2 .cpi, .f1 .rst7]

/-- The 256-entry opcode map (R307): row by the high hex digit, column by the low one. -/
def opMap : List (List Shape) :=
  [opRow0, opRow1, opRow2, opRow3, opRow4, opRow5, opRow6, opRow7] ++
  [opRow8, opRow9, opRowA, opRowB, opRowC, opRowD, opRowE, opRowF]

/-- `Decode(op)` (R311), total: every byte has its entry, so the two defaults are never taken (lemma `opMap_full`). -/
def decodeOp (op : Byte) : Shape :=
  (opMap.getD (op.toNat / 16) []).getD (op.toNat % 16) (.f1 .unimpl08)

/-- The length in bytes an opcode byte announces (R300). -/
def opLength (op : Byte) : Nat :=
  match decodeOp op with
  | .f1 _ => 1
  | .f2 _ => 2
  | .f3 _ => 3

/-- Why a list of bytes is no instruction: it is empty, or it ends before the operand bytes of its opcode. -/
inductive DecodeError where
  | noOpcode
  | operandMissing (op : Byte)
  deriving DecidableEq, Repr

/-- The instruction at the head of a list of bytes, with the bytes after it (R300, R306). -/
def decode : List Byte → Except DecodeError (Instr × List Byte)
  | [] => .error .noOpcode
  | op :: rest =>
    match decodeOp op, rest with
    | .f1 i, r => .ok (i, r)
    | .f2 f, v :: r => .ok (f v, r)
    | .f2 _, [] => .error (.operandMissing op)
    | .f3 f, lo :: hi :: r => .ok (f (cat hi lo), r)
    | .f3 _, _ => .error (.operandMissing op)

/-- The host's question: the instruction read from a row's `nbits` bits `w` (byte 1 in bits 7..0, byte 2 in bits 15..8,
byte 3 in bits 23..16), the bits above `nbits` zero. -/
def tableBytes (nbits w : Nat) : List Byte :=
  let v := w % 2 ^ nbits
  [BitVec.ofNat 8 v, BitVec.ofNat 8 (v / 256), BitVec.ofNat 8 (v / 65536)]

def decodeTableWord (nbits w : Nat) : Option Instr :=
  match decode (tableBytes nbits w) with
  | .ok (i, _) => some i
  | .error _ => none

/-! ## The encoder -/

/-- The register code `ddd` or `sss` (R303); code 6 is M. -/
def Reg.code : Reg → Nat
  | .b => 0 | .c => 1 | .d => 2 | .e => 3 | .h => 4 | .l => 5 | .a => 7

/-- The code of a source operand (R303). -/
def Src.code : Src → Nat
  | .reg r => r.code
  | .m => 6

/-- The ALU operation code (R302, field `alu`). -/
def AluOp.code : AluOp → Nat
  | .add => 0 | .adc => 1 | .sub => 2 | .sbb => 3 | .ana => 4 | .xra => 5 | .ora => 6 | .cmp => 7

/-- The pair code `rp` (R304, first column). -/
def Rp.code : Rp → Nat
  | .bc => 0 | .de => 1 | .hl => 2 | .sp => 3

/-- The condition code `ccc` (R305). -/
def Cond.code : Cond → Nat
  | .nz => 0 | .z => 1 | .nc => 2 | .c => 3 | .po => 4 | .pe => 5 | .p => 6 | .m => 7

/-- An opcode byte from its three octal fields `op[7:6]`, `op[5:3]`, `op[2:0]` (R302). -/
def octal (q x y : Nat) : Byte := BitVec.ofNat 8 (q * 64 + x * 8 + y)

/-- `01 ddd sss`: MOV between registers. -/
def opMov (d s : Src) : Byte := octal 1 d.code s.code
/-- `00 ddd 110`: MVI. -/
def opMvi (d : Src) : Byte := octal 0 d.code 6
/-- `00 ddd 100`: INR. -/
def opInr (d : Src) : Byte := octal 0 d.code 4
/-- `00 ddd 101`: DCR. -/
def opDcr (d : Src) : Byte := octal 0 d.code 5
/-- `00 rp0 001`: LXI. -/
def opLxi (p : Rp) : Byte := octal 0 (p.code * 2) 1
/-- `00 rp0 011`: INX. -/
def opInx (p : Rp) : Byte := octal 0 (p.code * 2) 3
/-- `00 rp1 011`: DCX. -/
def opDcx (p : Rp) : Byte := octal 0 (p.code * 2 + 1) 3
/-- `00 rp1 001`: DAD. -/
def opDad (p : Rp) : Byte := octal 0 (p.code * 2 + 1) 1
/-- `00 rp0 010`: STAX. -/
def opStax (p : Rp) : Byte := octal 0 (p.code * 2) 2
/-- `00 rp1 010`: LDAX. -/
def opLdax (p : Rp) : Byte := octal 0 (p.code * 2 + 1) 2
/-- `10 alu sss`: the ALU forms on a register or M. -/
def opAlu (o : AluOp) (s : Src) : Byte := octal 2 o.code s.code
/-- `11 alu 110`: the immediate ALU forms. -/
def opAluI (o : AluOp) : Byte := octal 3 o.code 6
/-- `11 ccc 010`: the conditional jumps. -/
def opJcc (cc : Cond) : Byte := octal 3 cc.code 2
/-- `11 ccc 100`: the conditional calls. -/
def opCcc (cc : Cond) : Byte := octal 3 cc.code 4
/-- `11 ccc 000`: the conditional returns. -/
def opRcc (cc : Cond) : Byte := octal 3 cc.code 0
/-- `11 rp0 101`: PUSH (code 11 is PSW). -/
def opPush (rp : Nat) : Byte := octal 3 (rp * 2) 5
/-- `11 rp0 001`: POP (code 11 is PSW). -/
def opPop (rp : Nat) : Byte := octal 3 (rp * 2) 1
/-- `11 nnn 111`: RST. -/
def opRst (n : Nat) : Byte := octal 3 n 7

/-- The opcode byte of an instruction, from its encoding line in 41_data_transfer.md to 47_special.md. -/
def Instr.opcode : Instr → Byte
  | .nop => 0b00000000
  | .lxiB _ => opLxi .bc
  | .staxB => opStax .bc
  | .inxB => opInx .bc
  | .inrB => opInr (.reg .b)
  | .dcrB => opDcr (.reg .b)
  | .mviB _ => opMvi (.reg .b)
  | .rlc => 0b00000111
  | .unimpl08 => 0x08
  | .dadB => opDad .bc
  | .ldaxB => opLdax .bc
  | .dcxB => opDcx .bc
  | .inrC => opInr (.reg .c)
  | .dcrC => opDcr (.reg .c)
  | .mviC _ => opMvi (.reg .c)
  | .rrc => 0b00001111
  | .unimpl10 => 0x10
  | .lxiD _ => opLxi .de
  | .staxD => opStax .de
  | .inxD => opInx .de
  | .inrD => opInr (.reg .d)
  | .dcrD => opDcr (.reg .d)
  | .mviD _ => opMvi (.reg .d)
  | .ral => 0b00010111
  | .unimpl18 => 0x18
  | .dadD => opDad .de
  | .ldaxD => opLdax .de
  | .dcxD => opDcx .de
  | .inrE => opInr (.reg .e)
  | .dcrE => opDcr (.reg .e)
  | .mviE _ => opMvi (.reg .e)
  | .rar => 0b00011111
  | .unimpl20 => 0x20
  | .lxiH _ => opLxi .hl
  | .shld _ => 0b00100010
  | .inxH => opInx .hl
  | .inrH => opInr (.reg .h)
  | .dcrH => opDcr (.reg .h)
  | .mviH _ => opMvi (.reg .h)
  | .daa => 0b00100111
  | .unimpl28 => 0x28
  | .dadH => opDad .hl
  | .lhld _ => 0b00101010
  | .dcxH => opDcx .hl
  | .inrL => opInr (.reg .l)
  | .dcrL => opDcr (.reg .l)
  | .mviL _ => opMvi (.reg .l)
  | .cma => 0b00101111
  | .unimpl30 => 0x30
  | .lxiSP _ => opLxi .sp
  | .sta _ => 0b00110010
  | .inxSP => opInx .sp
  | .inrM => opInr .m
  | .dcrM => opDcr .m
  | .mviM _ => opMvi .m
  | .stc => 0b00110111
  | .unimpl38 => 0x38
  | .dadSP => opDad .sp
  | .lda _ => 0b00111010
  | .dcxSP => opDcx .sp
  | .inrA => opInr (.reg .a)
  | .dcrA => opDcr (.reg .a)
  | .mviA _ => opMvi (.reg .a)
  | .cmc => 0b00111111
  | .movBB => opMov (.reg .b) (.reg .b)
  | .movBC => opMov (.reg .b) (.reg .c)
  | .movBD => opMov (.reg .b) (.reg .d)
  | .movBE => opMov (.reg .b) (.reg .e)
  | .movBH => opMov (.reg .b) (.reg .h)
  | .movBL => opMov (.reg .b) (.reg .l)
  | .movBM => opMov (.reg .b) .m
  | .movBA => opMov (.reg .b) (.reg .a)
  | .movCB => opMov (.reg .c) (.reg .b)
  | .movCC => opMov (.reg .c) (.reg .c)
  | .movCD => opMov (.reg .c) (.reg .d)
  | .movCE => opMov (.reg .c) (.reg .e)
  | .movCH => opMov (.reg .c) (.reg .h)
  | .movCL => opMov (.reg .c) (.reg .l)
  | .movCM => opMov (.reg .c) .m
  | .movCA => opMov (.reg .c) (.reg .a)
  | .movDB => opMov (.reg .d) (.reg .b)
  | .movDC => opMov (.reg .d) (.reg .c)
  | .movDD => opMov (.reg .d) (.reg .d)
  | .movDE => opMov (.reg .d) (.reg .e)
  | .movDH => opMov (.reg .d) (.reg .h)
  | .movDL => opMov (.reg .d) (.reg .l)
  | .movDM => opMov (.reg .d) .m
  | .movDA => opMov (.reg .d) (.reg .a)
  | .movEB => opMov (.reg .e) (.reg .b)
  | .movEC => opMov (.reg .e) (.reg .c)
  | .movED => opMov (.reg .e) (.reg .d)
  | .movEE => opMov (.reg .e) (.reg .e)
  | .movEH => opMov (.reg .e) (.reg .h)
  | .movEL => opMov (.reg .e) (.reg .l)
  | .movEM => opMov (.reg .e) .m
  | .movEA => opMov (.reg .e) (.reg .a)
  | .movHB => opMov (.reg .h) (.reg .b)
  | .movHC => opMov (.reg .h) (.reg .c)
  | .movHD => opMov (.reg .h) (.reg .d)
  | .movHE => opMov (.reg .h) (.reg .e)
  | .movHH => opMov (.reg .h) (.reg .h)
  | .movHL => opMov (.reg .h) (.reg .l)
  | .movHM => opMov (.reg .h) .m
  | .movHA => opMov (.reg .h) (.reg .a)
  | .movLB => opMov (.reg .l) (.reg .b)
  | .movLC => opMov (.reg .l) (.reg .c)
  | .movLD => opMov (.reg .l) (.reg .d)
  | .movLE => opMov (.reg .l) (.reg .e)
  | .movLH => opMov (.reg .l) (.reg .h)
  | .movLL => opMov (.reg .l) (.reg .l)
  | .movLM => opMov (.reg .l) .m
  | .movLA => opMov (.reg .l) (.reg .a)
  | .movMB => opMov .m (.reg .b)
  | .movMC => opMov .m (.reg .c)
  | .movMD => opMov .m (.reg .d)
  | .movME => opMov .m (.reg .e)
  | .movMH => opMov .m (.reg .h)
  | .movML => opMov .m (.reg .l)
  | .hlt => 0b01110110
  | .movMA => opMov .m (.reg .a)
  | .movAB => opMov (.reg .a) (.reg .b)
  | .movAC => opMov (.reg .a) (.reg .c)
  | .movAD => opMov (.reg .a) (.reg .d)
  | .movAE => opMov (.reg .a) (.reg .e)
  | .movAH => opMov (.reg .a) (.reg .h)
  | .movAL => opMov (.reg .a) (.reg .l)
  | .movAM => opMov (.reg .a) .m
  | .movAA => opMov (.reg .a) (.reg .a)
  | .addB => opAlu .add (.reg .b)
  | .addC => opAlu .add (.reg .c)
  | .addD => opAlu .add (.reg .d)
  | .addE => opAlu .add (.reg .e)
  | .addH => opAlu .add (.reg .h)
  | .addL => opAlu .add (.reg .l)
  | .addM => opAlu .add .m
  | .addA => opAlu .add (.reg .a)
  | .adcB => opAlu .adc (.reg .b)
  | .adcC => opAlu .adc (.reg .c)
  | .adcD => opAlu .adc (.reg .d)
  | .adcE => opAlu .adc (.reg .e)
  | .adcH => opAlu .adc (.reg .h)
  | .adcL => opAlu .adc (.reg .l)
  | .adcM => opAlu .adc .m
  | .adcA => opAlu .adc (.reg .a)
  | .subB => opAlu .sub (.reg .b)
  | .subC => opAlu .sub (.reg .c)
  | .subD => opAlu .sub (.reg .d)
  | .subE => opAlu .sub (.reg .e)
  | .subH => opAlu .sub (.reg .h)
  | .subL => opAlu .sub (.reg .l)
  | .subM => opAlu .sub .m
  | .subA => opAlu .sub (.reg .a)
  | .sbbB => opAlu .sbb (.reg .b)
  | .sbbC => opAlu .sbb (.reg .c)
  | .sbbD => opAlu .sbb (.reg .d)
  | .sbbE => opAlu .sbb (.reg .e)
  | .sbbH => opAlu .sbb (.reg .h)
  | .sbbL => opAlu .sbb (.reg .l)
  | .sbbM => opAlu .sbb .m
  | .sbbA => opAlu .sbb (.reg .a)
  | .anaB => opAlu .ana (.reg .b)
  | .anaC => opAlu .ana (.reg .c)
  | .anaD => opAlu .ana (.reg .d)
  | .anaE => opAlu .ana (.reg .e)
  | .anaH => opAlu .ana (.reg .h)
  | .anaL => opAlu .ana (.reg .l)
  | .anaM => opAlu .ana .m
  | .anaA => opAlu .ana (.reg .a)
  | .xraB => opAlu .xra (.reg .b)
  | .xraC => opAlu .xra (.reg .c)
  | .xraD => opAlu .xra (.reg .d)
  | .xraE => opAlu .xra (.reg .e)
  | .xraH => opAlu .xra (.reg .h)
  | .xraL => opAlu .xra (.reg .l)
  | .xraM => opAlu .xra .m
  | .xraA => opAlu .xra (.reg .a)
  | .oraB => opAlu .ora (.reg .b)
  | .oraC => opAlu .ora (.reg .c)
  | .oraD => opAlu .ora (.reg .d)
  | .oraE => opAlu .ora (.reg .e)
  | .oraH => opAlu .ora (.reg .h)
  | .oraL => opAlu .ora (.reg .l)
  | .oraM => opAlu .ora .m
  | .oraA => opAlu .ora (.reg .a)
  | .cmpB => opAlu .cmp (.reg .b)
  | .cmpC => opAlu .cmp (.reg .c)
  | .cmpD => opAlu .cmp (.reg .d)
  | .cmpE => opAlu .cmp (.reg .e)
  | .cmpH => opAlu .cmp (.reg .h)
  | .cmpL => opAlu .cmp (.reg .l)
  | .cmpM => opAlu .cmp .m
  | .cmpA => opAlu .cmp (.reg .a)
  | .rnz => opRcc .nz
  | .popB => opPop 0
  | .jnz _ => opJcc .nz
  | .jmp _ => 0b11000011
  | .cnz _ => opCcc .nz
  | .pushB => opPush 0
  | .adi _ => opAluI .add
  | .rst0 => opRst 0
  | .rz => opRcc .z
  | .ret => 0b11001001
  | .jz _ => opJcc .z
  | .unimplCB => 0xCB
  | .cz _ => opCcc .z
  | .call _ => 0b11001101
  | .aci _ => opAluI .adc
  | .rst1 => opRst 1
  | .rnc => opRcc .nc
  | .popD => opPop 1
  | .jnc _ => opJcc .nc
  | .out _ => 0b11010011
  | .cnc _ => opCcc .nc
  | .pushD => opPush 1
  | .sui _ => opAluI .sub
  | .rst2 => opRst 2
  | .rc => opRcc .c
  | .unimplD9 => 0xD9
  | .jc _ => opJcc .c
  | .inp _ => 0b11011011
  | .cc _ => opCcc .c
  | .unimplDD => 0xDD
  | .sbi _ => opAluI .sbb
  | .rst3 => opRst 3
  | .rpo => opRcc .po
  | .popH => opPop 2
  | .jpo _ => opJcc .po
  | .xthl => 0b11100011
  | .cpo _ => opCcc .po
  | .pushH => opPush 2
  | .ani _ => opAluI .ana
  | .rst4 => opRst 4
  | .rpe => opRcc .pe
  | .pchl => 0b11101001
  | .jpe _ => opJcc .pe
  | .xchg => 0b11101011
  | .cpe _ => opCcc .pe
  | .unimplED => 0xED
  | .xri _ => opAluI .xra
  | .rst5 => opRst 5
  | .rp => opRcc .p
  | .popPSW => opPop 3
  | .jp _ => opJcc .p
  | .di => 0b11110011
  | .cp _ => opCcc .p
  | .pushPSW => opPush 3
  | .ori _ => opAluI .ora
  | .rst6 => opRst 6
  | .rm => opRcc .m
  | .sphl => 0b11111001
  | .jm _ => opJcc .m
  | .ei => 0b11111011
  | .cm _ => opCcc .m
  | .unimplFD => 0xFD
  | .cpi _ => opAluI .cmp
  | .rst7 => opRst 7

/-- The operand bytes of an instruction (R301, R306: low byte first). -/
def Instr.operandBytes : Instr → List Byte
  | .mviB v | .mviC v | .mviD v | .mviE v
  | .mviH v | .mviL v | .mviM v | .mviA v
  | .adi v | .aci v | .out v | .sui v
  | .inp v | .sbi v | .ani v | .xri v
  | .ori v | .cpi v => [v]
  | .lxiB w | .lxiD w | .lxiH w | .shld w
  | .lhld w | .lxiSP w | .sta w | .lda w
  | .jnz w | .jmp w | .cnz w | .jz w
  | .cz w | .call w | .jnc w | .cnc w
  | .jc w | .cc w | .jpo w | .cpo w
  | .jpe w | .cpe w | .jp w | .cp w
  | .jm w | .cm w => [lo8 w, hi8 w]
  | _ => []

/-- The bytes of an instruction, in memory order (R301). -/
def encode (i : Instr) : List Byte := i.opcode :: i.operandBytes

end Sys2Proof
end

