-- ==== Sys2Proof/Config.lean ====
section
/-! DEFINITION. The configuration of spec/00_scope.md R5: the OPEN parameters a model takes as arguments, fixed for
a run, and the one free value of the model (what a host's port handler answers). -/

namespace Sys2Proof

/-- `PSW_LAYOUT` (spec/44_stack.md R802): the bit positions of S, Z, P and CY in the flags byte, and the byte `PAD`
that gives the pushed value of the other four bits. -/
structure PswLayout where
  posS  : Fin 8
  posZ  : Fin 8
  posP  : Fin 8
  posCY : Fin 8
  pad   : Byte
  deriving DecidableEq, Repr

/-- The implementation parameters of spec/00_scope.md R5 (R115 and R117: no instruction writes any of them).
`cycleCost` lists `CYCLE_COST` by opcode byte (spec/40_dispatch_alu.md R402, R420). -/
structure Config where
  memSize      : Nat
  romBoundary  : Nat
  mirrorLo     : Nat
  mirrorHi     : Nat
  mirrorOffset : Nat
  cycleCost    : List Nat
  psw          : PswLayout
  deriving DecidableEq, Repr

/-- One call of `PortOut(p, v)` as the host receives it (spec/46_io.md R1002: an event of the run's trace). -/
structure PortEvent where
  port  : Byte
  value : Byte
  deriving DecidableEq, Repr

/-- FREE VALUE: the byte the host's handler answers to the k-th `PortIn` (k counted from 0), which may depend on the
port number and on the OUT events so far (spec/46_io.md R1002, spec/93_implementation_defined.md U17). It has no
body, so nothing is known of it. DESIGN CHOICE, safe (log entry 5): used only when the state lists no answer. -/
opaque Config.portInOracle (k : Nat) (port : Byte) (outs : List PortEvent) : Byte

end Sys2Proof
end

