-- ==== Sys2Proof/Machine/Defaults.lean ====
section
/-! DEFINITION. The default values of the OPEN parameters: the cost table of spec/40_dispatch_alu.md R420, the
flags-byte layout of spec/44_stack.md R802, and the configuration the reset state is built with (the example
configuration EX of spec/00_scope.md R12; DESIGN CHOICE, unsafe, log entry 1). -/

namespace Sys2Proof.Machine

/-- Row 0x of the default `CYCLE_COST` table (R420); an entry without a cost (an unimplemented opcode) is 0. -/
def costRow0 : List Nat := [4, 10, 7, 5, 5, 5, 7, 4, 0, 10, 7, 5, 5, 5, 7, 4]

/-- Row 1x of the default `CYCLE_COST` table (R420); an entry without a cost (an unimplemented opcode) is 0. -/
def costRow1 : List Nat := [0, 10, 7, 5, 5, 5, 7, 4, 0, 10, 7, 5, 5, 5, 7, 4]

/-- Row 2x of the default `CYCLE_COST` table (R420); an entry without a cost (an unimplemented opcode) is 0. -/
def costRow2 : List Nat := [0, 10, 16, 5, 5, 5, 7, 4, 0, 10, 16, 5, 5, 5, 7, 4]

/-- Row 3x of the default `CYCLE_COST` table (R420); an entry without a cost (an unimplemented opcode) is 0. -/
def costRow3 : List Nat := [0, 10, 13, 5, 10, 10, 10, 4, 0, 10, 13, 5, 5, 5, 7, 4]

/-- Row 4x of the default `CYCLE_COST` table (R420); an entry without a cost (an unimplemented opcode) is 0. -/
def costRow4 : List Nat := [5, 5, 5, 5, 5, 5, 7, 5, 5, 5, 5, 5, 5, 5, 7, 5]

/-- Row 5x of the default `CYCLE_COST` table (R420); an entry without a cost (an unimplemented opcode) is 0. -/
def costRow5 : List Nat := [5, 5, 5, 5, 5, 5, 7, 5, 5, 5, 5, 5, 5, 5, 7, 5]

/-- Row 6x of the default `CYCLE_COST` table (R420); an entry without a cost (an unimplemented opcode) is 0. -/
def costRow6 : List Nat := [5, 5, 5, 5, 5, 5, 7, 5, 5, 5, 5, 5, 5, 5, 7, 5]

/-- Row 7x of the default `CYCLE_COST` table (R420); an entry without a cost (an unimplemented opcode) is 0. -/
def costRow7 : List Nat := [7, 7, 7, 7, 7, 7, 7, 7, 5, 5, 5, 5, 5, 5, 7, 5]

/-- Row 8x of the default `CYCLE_COST` table (R420); an entry without a cost (an unimplemented opcode) is 0. -/
def costRow8 : List Nat := [4, 4, 4, 4, 4, 4, 7, 4, 4, 4, 4, 4, 4, 4, 7, 4]

/-- Row 9x of the default `CYCLE_COST` table (R420); an entry without a cost (an unimplemented opcode) is 0. -/
def costRow9 : List Nat := [4, 4, 4, 4, 4, 4, 7, 4, 4, 4, 4, 4, 4, 4, 7, 4]

/-- Row Ax of the default `CYCLE_COST` table (R420); an entry without a cost (an unimplemented opcode) is 0. -/
def costRowA : List Nat := [4, 4, 4, 4, 4, 4, 7, 4, 4, 4, 4, 4, 4, 4, 7, 4]

/-- Row Bx of the default `CYCLE_COST` table (R420); an entry without a cost (an unimplemented opcode) is 0. -/
def costRowB : List Nat := [4, 4, 4, 4, 4, 4, 7, 4, 4, 4, 4, 4, 4, 4, 7, 4]

/-- Row Cx of the default `CYCLE_COST` table (R420); an entry without a cost (an unimplemented opcode) is 0. -/
def costRowC : List Nat := [11, 10, 10, 10, 17, 11, 7, 11, 11, 10, 10, 0, 17, 17, 7, 11]

/-- Row Dx of the default `CYCLE_COST` table (R420); an entry without a cost (an unimplemented opcode) is 0. -/
def costRowD : List Nat := [11, 10, 10, 10, 17, 11, 7, 11, 11, 0, 10, 10, 17, 0, 7, 11]

/-- Row Ex of the default `CYCLE_COST` table (R420); an entry without a cost (an unimplemented opcode) is 0. -/
def costRowE : List Nat := [11, 10, 10, 18, 17, 11, 7, 11, 11, 5, 10, 4, 17, 0, 7, 11]

/-- Row Fx of the default `CYCLE_COST` table (R420); an entry without a cost (an unimplemented opcode) is 0. -/
def costRowF : List Nat := [11, 10, 10, 4, 17, 11, 7, 11, 11, 5, 10, 4, 17, 0, 7, 11]

/-- The default `CYCLE_COST` by opcode byte (R420). -/
def defaultCycleCost : List Nat :=
  (costRow0 ++ costRow1 ++ costRow2 ++ costRow3 ++ costRow4 ++ costRow5 ++ costRow6 ++ costRow7) ++
  (costRow8 ++ costRow9 ++ costRowA ++ costRowB ++ costRowC ++ costRowD ++ costRowE ++ costRowF)

/-- The default `PSW_LAYOUT`: S = bit 7, Z = bit 6, P = bit 2, CY = bit 0, `PAD` = 0x02 (R802). -/
def defaultPswLayout : PswLayout := { posS := 7, posZ := 6, posP := 2, posCY := 0, pad := 0x02 }

/-- The example configuration EX (R12): 64 KiB, writes at or below 0x1FFF discarded, no mirror range (R204), the
default costs and layout. -/
def exConfig : Config where
  memSize      := 0x10000
  romBoundary  := 0x1FFF
  mirrorLo     := 1
  mirrorHi     := 0
  mirrorOffset := 0
  cycleCost    := defaultCycleCost
  psw          := defaultPswLayout

end Sys2Proof.Machine
end

