-- ==== Sys2Proof/Machine/State.lean ====
section
/-! DEFINITION. The machine state (spec/10_state.md), the reasons a step can stop (spec/60_exceptions.md), and the
state after reset (spec/70_reset_and_hazards.md R1300). -/

namespace Sys2Proof.Machine

/-- Why the machine stops with a fault (R1200 to R1202, R1205: faults are terminal, STATUS becomes
`Faulted(kind, payload)`, and every other value is unspecified, which a stop without a next state says). -/
inductive Fault where
  /-- Raised by the twelve opcodes without a handler (R1104, R1201), with the opcode and the address it was fetched
  from. Safe: the spec itself ends the run here. -/
  | unimplementedOpcode (op : Byte) (addr : Word)
  /-- Raised by a fetch, a data read or an unguarded write at an address that names no byte of the buffer (R201, R202,
  R1202), with that address (after the mirror remap for a write). Safe: the spec itself ends the run here. -/
  | memoryOutOfRange (addr : Nat)
  deriving DecidableEq, Repr

/-- Why an operation of the host is not admitted: the spec calls each of these a refusal, with no change of state. -/
inductive Refusal where
  /-- An instruction without a meaning yet, by its mnemonic. No arm of `exec` answers it. Safe. -/
  | notModelled (mnemonic : String)
  /-- Raised by `step`, `set_vector` and `generate_interrupt` when STATUS is not `Running` (R400, R1205, R1216). Safe:
  the spec refuses the call. -/
  | notRunning
  /-- Raised by `generate_interrupt` when IE is true and no vector is set (R1208, R1209). Safe: the spec refuses it. -/
  | vectorUnset
  /-- Raised by `set_vector(n)` for n outside 1 to 7 (R1208). Safe: the spec refuses it. -/
  | vectorOutOfRange (n : Nat)
  deriving DecidableEq, Repr

/-- The five flags (R107). -/
structure Flags where
  z  : Bool
  s  : Bool
  p  : Bool
  cy : Bool
  ac : Bool
  deriving DecidableEq, Repr

/-- The seven vectors the host may select (R111, R1208); `vn` has the entry address `8 * n`. -/
inductive IntVector where
  | v1 | v2 | v3 | v4 | v5 | v6 | v7
  deriving DecidableEq, Repr

/-- STATUS (R112). -/
inductive Status where
  | running
  | halted
  | faulted (reason : Fault)
  deriving DecidableEq, Repr

/-- The host's operations on a constructed core (R1216): the calls whose order is the input of a run (R1215, R1308). -/
inductive HostCall where
  | step
  | setVector (n : Nat)
  | generateInterrupt
  deriving DecidableEq, Repr

/-- Memory as (address, byte) pairs in one canonical form (`Memory.wf`): addresses strictly rising, no byte equal to
what an unlisted address reads as. -/
abbrev Memory := List Host.Cell

/-- R114, R1301: every byte no image covers is 0, so an unlisted address reads as 0. -/
abbrev Memory.unlisted : Byte := 0

/-- The canonical form of memory. -/
abbrev Memory.wf (m : Memory) : Prop :=
  m.Pairwise (fun x y => x.1 < y.1) ∧ ∀ x ∈ m, x.2 ≠ Memory.unlisted

/-- The whole state (spec/10_state.md section 10). `cfg` is the configuration (R5: fixed for a run, no operation
changes it; held here so that every claim is about every configuration; log entry 1). `portAnswers`, `inCount`,
`outTrace` and `hostCalls` are the model's record of the host's side of the interface (R1002, R1216; log entries 5
and 6): the bytes the host will answer to the next `PortIn` calls, how many it has answered, the `PortOut` events so
far (oldest first), and the host operations to come. -/
structure State where
  a : Byte
  b : Byte
  c : Byte
  d : Byte
  e : Byte
  h : Byte
  l : Byte
  sp : Word
  pc : Word
  flags : Flags
  ie : Bool
  ivec : Option IntVector
  status : Status
  cyc : Nat
  mem : Memory
  cfg : Config
  portAnswers : List Byte
  inCount : Nat
  outTrace : List PortEvent
  hostCalls : List HostCall
  deriving DecidableEq, Repr

/-- What one step of the machine, or one meaning, answers. -/
abbrev Result := Host.Outcome State Fault Refusal

/-- `RESET_REGS`: the launch inputs of R101, R104 and R109. -/
structure ResetRegs where
  a : Byte
  b : Byte
  c : Byte
  d : Byte
  e : Byte
  h : Byte
  l : Byte
  sp : Word
  flags : Flags
  deriving DecidableEq, Repr

/-- DESIGN CHOICE, unsafe (log entry 2): the spec gives `RESET_REGS` no values; the reset state takes zero for each. -/
def zeroRegs : ResetRegs where
  a := 0
  b := 0
  c := 0
  d := 0
  e := 0
  h := 0
  l := 0
  sp := 0
  flags := { z := false, s := false, p := false, cy := false, ac := false }

/-- The state at construction (R1300) for a configuration, the launch registers and a memory content. -/
def State.constructed (cfg : Config) (r : ResetRegs) (mem : Memory) : State where
  a := r.a
  b := r.b
  c := r.c
  d := r.d
  e := r.e
  h := r.h
  l := r.l
  sp := r.sp
  pc := 0x0000
  flags := r.flags
  ie := false
  ivec := none
  status := .running
  cyc := 0
  mem := mem
  cfg := cfg
  portAnswers := []
  inCount := 0
  outTrace := []
  hostCalls := []

/-- The machine right after reset (R1300), with no image placed: memory reads 0 everywhere (log entry 3 says how a
program comes to run). -/
def State.reset : State := State.constructed exConfig zeroRegs []

end Sys2Proof.Machine
end

