-- ==== Sys2Proof/WellFormed.lean ====
section
/-! DEFINITION. What is well formed: a configuration (spec/00_scope.md R5), the flags-byte layout (spec/44_stack.md
R802), the launch images (spec/70_reset_and_hazards.md R1301), a vector number (spec/60_exceptions.md R1208) and an
instruction (spec/30_encoding.md R308: one of the 244 documented ones; operand widths are carried by the types). -/

namespace Sys2Proof

/-- R802: four distinct bit positions, and a `PAD` that is 0 at each of them. -/
abbrev PswLayout.wf (p : PswLayout) : Prop :=
  (p.posS ≠ p.posZ ∧ p.posS ≠ p.posP ∧ p.posS ≠ p.posCY ∧ p.posZ ≠ p.posP ∧ p.posZ ≠ p.posCY ∧ p.posP ≠ p.posCY) ∧
  (p.pad.getLsb p.posS = false ∧ p.pad.getLsb p.posZ = false ∧ p.pad.getLsb p.posP = false ∧
    p.pad.getLsb p.posCY = false)

/-- R5, R204, R420: the ranges of the parameters. An empty mirror range is one with `mirrorHi < mirrorLo`. -/
abbrev Config.wf (c : Config) : Prop :=
  16384 ≤ c.memSize ∧ c.memSize ≤ 65536 ∧ c.romBoundary < c.memSize ∧ c.mirrorOffset ≤ c.mirrorLo ∧
  c.cycleCost.length = 256 ∧ c.psw.wf

/-- A binary image placed in memory at construction (R1301). -/
structure Image where
  offset : Nat
  bytes  : List Byte
  deriving DecidableEq, Repr

/-- The address just above an image. -/
abbrev Image.stop (i : Image) : Nat := i.offset + i.bytes.length

/-- R1301: each image lies wholly inside the buffer, and no two overlap. -/
abbrev imagesWf (memSize : Nat) (is : List Image) : Prop :=
  (∀ i ∈ is, i.stop ≤ memSize) ∧ is.Pairwise (fun i j => i.stop ≤ j.offset ∨ j.stop ≤ i.offset)

/-- R1208: the vector numbers `set_vector` admits. -/
abbrev vectorWf (n : Nat) : Prop := 1 ≤ n ∧ n ≤ 7

/-- R308, R311: a documented instruction, which is every term but the twelve opcodes without a handler. -/
def Instr.wellFormed : Instr → Bool
  | .unimpl08 | .unimpl10 | .unimpl18 | .unimpl20 | .unimpl28 | .unimpl30 | .unimpl38 => false
  | .unimplCB | .unimplD9 | .unimplDD | .unimplED | .unimplFD => false
  | _ => true

end Sys2Proof
end

