-- ==== Sys2Proof/Machine/Ops.lean ====
section
/-! DEFINITION. The named operations over memory and registers (spec/20_memory.md, spec/44_stack.md) and the one shared
entry to a vector (spec/45_branch.md R930, spec/60_exceptions.md R1209) with the return from it (R920, R1213). An
operation that may raise a fault answers in `Except Fault`. -/

namespace Sys2Proof.Machine

/-- The result of a meaning from an operation that may raise a fault (R401, R1205). -/
def finish : Except Fault State → Result
  | .ok s => .next s
  | .error r => .fault r

/-! ## Raw memory (R200) -/

/-- The byte at an address; an unlisted address reads as 0 (R114). -/
def Memory.read : Memory → Nat → Byte
  | [], _ => Memory.unlisted
  | (k, v) :: m, a => if a = k then v else Memory.read m a

/-- Store a byte, keeping the canonical form. -/
def Memory.write : Memory → Nat → Byte → Memory
  | [], a, v => if v = Memory.unlisted then [] else [(a, v)]
  | (k, w) :: m, a, v =>
    if a < k then (if v = Memory.unlisted then (k, w) :: m else (a, v) :: (k, w) :: m)
    else if a = k then (if v = Memory.unlisted then m else (k, v) :: m)
    else (k, w) :: Memory.write m a v

/-- Store a run of bytes at rising addresses (the loader's placing of an image, R1301: no write guard). -/
def Memory.load (m : Memory) (a : Nat) : List Byte → Memory
  | [] => m
  | v :: vs => Memory.load (Memory.write m a v) (a + 1) vs

/-- Memory at construction: every image at its offset, every other byte 0 (R114, R1301). -/
def imageMemory : List Image → Memory
  | [] => []
  | i :: is => Memory.load (imageMemory is) i.offset i.bytes

/-- `construct(images, configuration)` with the launch registers (R1216, R1300). -/
def State.construct (cfg : Config) (r : ResetRegs) (images : List Image) : State :=
  State.constructed cfg r (imageMemory images)

namespace State

/-- `MEM[addr]` (R200). -/
def readByte (s : State) (a : Nat) : Byte := Memory.read s.mem a

/-- `Read8(addr)` (R201): never remapped, never guarded; a fault at or above MEM_SIZE. -/
def read8 (s : State) (a : Nat) : Except Fault Byte :=
  if s.cfg.memSize ≤ a then .error (.memoryOutOfRange a) else .ok (s.readByte a)

/-- The mirror remap of a write address (R202, R204). -/
def remap (s : State) (a : Nat) : Nat :=
  if s.cfg.mirrorLo ≤ a ∧ a ≤ s.cfg.mirrorHi then a - s.cfg.mirrorOffset else a

/-- `Write8(addr, v)` (R202): remap, then the inclusive write guard (R203), then the range check. -/
def write8 (s : State) (a : Nat) (v : Byte) : Except Fault State :=
  let a' := s.remap a
  if a' ≤ s.cfg.romBoundary then .ok s
  else if s.cfg.memSize ≤ a' then .error (.memoryOutOfRange a')
  else .ok { s with mem := Memory.write s.mem a' v }

/-- `Read16(addr)` (R208): the low byte first; the second address is `addr + 1`, not reduced mod 2^16. -/
def read16 (s : State) (a : Nat) : Except Fault Word := do
  let lo ← s.read8 a
  let hi ← s.read8 (a + 1)
  .ok (cat hi lo)

/-- `Write16(addr, v)` (R208): the low byte first. -/
def write16 (s : State) (a : Nat) (v : Word) : Except Fault State := do
  let s1 ← s.write8 a (lo8 v)
  s1.write8 (a + 1) (hi8 v)

/-! ## Registers (R8, R100, R102) -/

/-- `REG[r]`. -/
def reg (s : State) : Reg → Byte
  | .a => s.a | .b => s.b | .c => s.c | .d => s.d | .e => s.e | .h => s.h | .l => s.l

/-- `REG[r] <- v`. -/
def setReg (s : State) (r : Reg) (v : Byte) : State :=
  match r with
  | .a => { s with a := v }
  | .b => { s with b := v }
  | .c => { s with c := v }
  | .d => { s with d := v }
  | .e => { s with e := v }
  | .h => { s with h := v }
  | .l => { s with l := v }

/-- The 16-bit value of a pair, first-named register high (R102). -/
def pair (s : State) : Pair → Word
  | .bc => cat s.b s.c
  | .de => cat s.d s.e
  | .hl => cat s.h s.l

/-- Write a 16-bit value to a pair (R102). -/
def setPair (s : State) (p : Pair) (w : Word) : State :=
  match p with
  | .bc => { s with b := hi8 w, c := lo8 w }
  | .de => { s with d := hi8 w, e := lo8 w }
  | .hl => { s with h := hi8 w, l := lo8 w }

/-- `RP[p]` for LXI, INX, DCX and DAD (R304). -/
def rp (s : State) : Rp → Word
  | .bc => s.pair .bc
  | .de => s.pair .de
  | .hl => s.pair .hl
  | .sp => s.sp

/-- `RP[p] <- v` (R304). -/
def setRp (s : State) (p : Rp) (w : Word) : State :=
  match p with
  | .bc => s.setPair .bc w
  | .de => s.setPair .de w
  | .hl => s.setPair .hl w
  | .sp => { s with sp := w }

/-! ## The address-pair resolver (R206) -/

/-- `ResolvePair(hi, lo)`: a pair that points past the buffer is zeroed, and the address is 0. -/
def resolvePair (s : State) (p : Pair) : Nat × State :=
  let a := (s.pair p).toNat
  if s.cfg.memSize ≤ a then (0, s.setPair p 0) else (a, s)

/-! ## Instruction-stream reads (R209) -/

/-- `Fetch8()`. -/
def fetch8 (s : State) : Except Fault (Byte × State) := do
  let v ← s.read8 s.pc.toNat
  .ok (v, { s with pc := s.pc + 1 })

/-- `Fetch16()`: the low byte first. -/
def fetch16 (s : State) : Except Fault (Word × State) := do
  let (lo, s1) ← s.fetch8
  let (hi, s2) ← s1.fetch8
  .ok (cat hi lo, s2)

/-! ## The stack (R800, R801) -/

/-- `Push16(v)`: SP falls by 2 first, then the high byte is written at SP + 1 and the low byte at SP. -/
def push16 (s : State) (v : Word) : Except Fault State := do
  let s1 := { s with sp := s.sp - 2 }
  let s2 ← s1.write8 (s1.sp.toNat + 1) (hi8 v)
  s2.write8 s2.sp.toNat (lo8 v)

/-- `Pop16()`. -/
def pop16 (s : State) : Except Fault (Word × State) := do
  let lo ← s.read8 s.sp.toNat
  let hi ← s.read8 (s.sp.toNat + 1)
  .ok (cat hi lo, { s with sp := s.sp + 2 })

/-! ## Entering a vector and returning from it -/

/-- Push the PC and go to `8 * n`: what RST n (R930) and an accepted interrupt (R1209) share. -/
def enterVector (s : State) (n : Nat) : Except Fault State := do
  let s1 ← s.push16 s.pc
  .ok { s1 with pc := BitVec.ofNat 16 (8 * n) }

/-- Pop the PC: RET (R920), which is also the return from an interrupt handler (R1213). -/
def returnFrom (s : State) : Except Fault State := do
  let (w, s1) ← s.pop16
  .ok { s1 with pc := w }

/-! ## The port bridge (R1002) -/

/-- `PortIn(p)`: the host's next answer, listed in the state or else the free value `Config.portInOracle`. -/
def portIn (s : State) (p : Byte) : Byte × State :=
  match s.portAnswers with
  | v :: vs => (v, { s with portAnswers := vs, inCount := s.inCount + 1 })
  | [] => (Config.portInOracle s.inCount p s.outTrace, { s with inCount := s.inCount + 1 })

/-- `PortOut(p, v)`: an event appended to the run's trace. -/
def portOut (s : State) (p v : Byte) : State :=
  { s with outTrace := s.outTrace ++ [{ port := p, value := v }] }

end State

end Sys2Proof.Machine
end

