-- ==== Sys2Proof/Machine/Flags.lean ====
section
/-! DEFINITION. The ALU primitives and every flag computation (spec/40_dispatch_alu.md R406 to R411,
spec/42_arithmetic.md R612 to R619, spec/43_logical.md, spec/44_stack.md R802 and R803). Arithmetic is exact on
naturals and narrowed at the end (R7). -/

namespace Sys2Proof.Machine

/-- The number of 1 bits among bits 7..0 of a number (R7, R406). -/
def popcount8 (r : Nat) : Nat := (List.range 8).countP (fun i => r.testBit i)

/-- `ComputeFlags(r)` (R406): Z, S, P and CY from a result `0 <= r <= 0x1FF`; AC is not written. -/
def computeFlags (r : Nat) (f : Flags) : Flags :=
  { f with z  := decide (r % 256 = 0)
           s  := r.testBit 7
           p  := decide (popcount8 r % 2 = 0)
           cy := decide (r > 0xFF) }

/-- `Aux(a, b, r)` (R407): bit 4 of the XOR of the operands and the result. -/
def aux (a b r : Nat) : Bool := (a ^^^ b ^^^ r).testBit 4

/-- `Add8(a, b, cin)` (R408). -/
def add8 (a b : Byte) (cin : Bool) (f : Flags) : Byte × Flags :=
  let r := a.toNat + b.toNat + cin.toNat
  (BitVec.ofNat 8 r, { computeFlags r f with ac := aux a.toNat b.toNat r })

/-- `Sub8(a, b, bin)` (R409): the adder on the ones' complement, with the carry inverted once. -/
def sub8 (a b : Byte) (bin : Bool) (f : Flags) : Byte × Flags :=
  let nb := 255 - b.toNat
  let r := a.toNat + nb + (1 - bin.toNat)
  let f1 := { computeFlags r f with ac := aux a.toNat nb r }
  (BitVec.ofNat 8 r, { f1 with cy := !f1.cy })

/-- INR's arithmetic (R612, R613): add 1, CY restored. -/
def inc8 (v : Byte) (f : Flags) : Byte × Flags :=
  let (r, f1) := add8 v 1 false f
  (r, { f1 with cy := f.cy })

/-- DCR's arithmetic (R614, R615): subtract 1, CY restored. -/
def dec8 (v : Byte) (f : Flags) : Byte × Flags :=
  let (r, f1) := sub8 v 1 false f
  (r, { f1 with cy := f.cy })

/-- `And8(v)` (R700): CY = 0, AC = bit 3 of (A OR operand). -/
def and8 (a v : Byte) (f : Flags) : Byte × Flags :=
  let r := a &&& v
  (r, { computeFlags r.toNat f with cy := false, ac := (a ||| v).getLsbD 3 })

/-- `Xor8(v)` (R703): CY = 0, AC = 0. -/
def xor8 (a v : Byte) (f : Flags) : Byte × Flags :=
  let r := a ^^^ v
  (r, { computeFlags r.toNat f with cy := false, ac := false })

/-- `Or8(v)` (R706): CY = 0, AC = 0. -/
def or8 (a v : Byte) (f : Flags) : Byte × Flags :=
  let r := a ||| v
  (r, { computeFlags r.toNat f with cy := false, ac := false })

/-- Decimal adjust (R619). The high-nibble test is on the unreduced sum. -/
def daa8 (a : Byte) (f : Flags) : Byte × Flags :=
  let corr := if a.toNat % 16 > 9 ∨ f.ac = true then 0x06 else 0x00
  let high := decide ((a.toNat + corr) >>> 4 > 9) || f.cy
  let corr' := if high then corr ||| 0x60 else corr
  let (r, f1) := add8 a (BitVec.ofNat 8 corr') false f
  (r, { f1 with cy := if high then true else f.cy })

/-- RLC (R712): the new A and CY. -/
def rlc8 (a : Byte) : Byte × Bool :=
  let b7 := a.getLsbD 7
  (BitVec.ofNat 8 ((a.toNat <<< 1) ||| b7.toNat), b7)

/-- RRC (R713). -/
def rrc8 (a : Byte) : Byte × Bool :=
  let b0 := a.getLsbD 0
  (BitVec.ofNat 8 ((a.toNat >>> 1) ||| (b0.toNat <<< 7)), b0)

/-- RAL (R714): the old CY enters bit 0. -/
def ral8 (a : Byte) (c : Bool) : Byte × Bool :=
  let b7 := a.getLsbD 7
  (BitVec.ofNat 8 ((a.toNat <<< 1) ||| c.toNat), b7)

/-- RAR (R715): the old CY enters bit 7. -/
def rar8 (a : Byte) (c : Bool) : Byte × Bool :=
  let b0 := a.getLsbD 0
  (BitVec.ofNat 8 ((a.toNat >>> 1) ||| (c.toNat <<< 7)), b0)

/-- `Cond(ccc)` (R305, R411). -/
def condHolds (f : Flags) : Cond → Bool
  | .nz => !f.z
  | .z  => f.z
  | .nc => !f.cy
  | .c  => f.cy
  | .po => !f.p
  | .pe => f.p
  | .p  => !f.s
  | .m  => f.s

/-- `PackFlags()` under a layout (R802). AC is not packed. -/
def packFlags (lay : PswLayout) (f : Flags) : Byte :=
  lay.pad ||| BitVec.ofNat 8 (f.s.toNat <<< lay.posS.val) ||| BitVec.ofNat 8 (f.z.toNat <<< lay.posZ.val)
    ||| BitVec.ofNat 8 (f.p.toNat <<< lay.posP.val) ||| BitVec.ofNat 8 (f.cy.toNat <<< lay.posCY.val)

/-- `UnpackFlags(f)` under a layout (R803): AC unchanged, the other four bits ignored. -/
def unpackFlags (lay : PswLayout) (v : Byte) (f : Flags) : Flags :=
  { f with s  := v.getLsb lay.posS
           z  := v.getLsb lay.posZ
           p  := v.getLsb lay.posP
           cy := v.getLsb lay.posCY }

/-- One ALU operation on A and an operand value (R600 to R611, R700 to R711): the new A and the new flags; CMP keeps A
(R709). -/
def aluValue (o : AluOp) (a v : Byte) (f : Flags) : Byte × Flags :=
  match o with
  | .add => add8 a v false f
  | .adc => add8 a v f.cy f
  | .sub => sub8 a v false f
  | .sbb => sub8 a v f.cy f
  | .ana => and8 a v f
  | .xra => xor8 a v f
  | .ora => or8 a v f
  | .cmp => (a, (sub8 a v false f).2)

end Sys2Proof.Machine
end

