-- ==== Sys2Proof/Machine/Operands.lean ====
section
/-! DEFINITION. The operand forms of the instructions: the memory operand M (spec/20_memory.md R207), the
register-or-memory source (spec/40_dispatch_alu.md R410), and the pairs LDAX and STAX address through
(spec/30_encoding.md R304). Immediates are the arguments of an instruction (R306). -/

namespace Sys2Proof.Machine

/-- The pair an LDAX or STAX names, as an address pair (R304). -/
def idxPair : IdxPair → Pair
  | .bc => .bc
  | .de => .de

/-- The byte at `ResolvePair` of a pair, with the state after the resolver (R206, R207). -/
def State.readThrough (s : State) (p : Pair) : Except Fault (Byte × State) := do
  let (a, s1) := s.resolvePair p
  let v ← s1.read8 a
  .ok (v, s1)

/-- Store at `ResolvePair` of a pair a byte that is read from the state after the resolver (R207). -/
def State.writeThrough (s : State) (p : Pair) (val : State → Byte) : Except Fault State :=
  let (a, s1) := s.resolvePair p
  s1.write8 a (val s1)

/-- `OperandS(sss)` (R410). -/
def State.operandS (s : State) : Src → Except Fault (Byte × State)
  | .reg r => .ok (s.reg r, s)
  | .m => s.readThrough .hl

end Sys2Proof.Machine
end

