-- ==== Sys2Proof/Machine/Arithmetic.lean ====
section
/-! DEFINITION. The arithmetic instructions (spec/42_arithmetic.md R600 to R619), and the ALU operations on A that the
logical family shares (spec/40_dispatch_alu.md R410): first the operations, then one meaning per row of the table. -/

namespace Sys2Proof.Machine

/-- Apply an ALU operation to A, the flags and an operand value (R600 to R611, R700 to R711). -/
def applyAlu (o : AluOp) (v : Byte) (s : State) : State :=
  { s with a := (aluValue o s.a v s.flags).1, flags := (aluValue o s.a v s.flags).2 }

/-- The register and memory ALU forms: the operand by `OperandS` (R410), which runs the resolver first. -/
def aluSrc (o : AluOp) (x : Src) (s : State) : Except Fault State := do
  let (v, s1) ← s.operandS x
  .ok (applyAlu o v s1)

/-- The immediate ALU forms. -/
def aluImm (o : AluOp) (v : Byte) (s : State) : Except Fault State := .ok (applyAlu o v s)

/-- INR r (R612). -/
def incReg (dst : Reg) (s : State) : Except Fault State :=
  let (v, f) := inc8 (s.reg dst) s.flags
  .ok { s.setReg dst v with flags := f }

/-- DCR r (R614). -/
def decReg (dst : Reg) (s : State) : Except Fault State :=
  let (v, f) := dec8 (s.reg dst) s.flags
  .ok { s.setReg dst v with flags := f }

/-- The read-modify-write of INR M and DCR M: resolve, read, compute with the flags, then write (R613, R615). -/
def modifyM (op : Byte → Flags → Byte × Flags) (s : State) : Except Fault State := do
  let (a, s1) := s.resolvePair .hl
  let x ← s1.read8 a
  let (v, f) := op x s1.flags
  { s1 with flags := f }.write8 a v

/-- INR M (R613). -/
def incM (s : State) : Except Fault State := modifyM inc8 s

/-- DCR M (R615). -/
def decM (s : State) : Except Fault State := modifyM dec8 s

/-- INX rp (R616). -/
def incRp (p : Rp) (s : State) : Except Fault State := .ok (s.setRp p (s.rp p + 1))

/-- DCX rp (R617). -/
def decRp (p : Rp) (s : State) : Except Fault State := .ok (s.setRp p (s.rp p - 1))

/-- DAD rp (R618): CY only, from the carry out of bit 15. -/
def addRp (p : Rp) (s : State) : Except Fault State :=
  let r := (s.pair .hl).toNat + (s.rp p).toNat
  let s1 := s.setPair .hl (BitVec.ofNat 16 r)
  .ok { s1 with flags := { s.flags with cy := decide (r > 0xFFFF) } }

/-- DAA (R619). -/
def adjustDecimal (s : State) : Except Fault State :=
  .ok { s with a := (daa8 s.a s.flags).1, flags := (daa8 s.a s.flags).2 }

/-! ## One meaning per row of the opcode table -/

/-- INX B (R616). -/
def execInxB (s : State) : Result := finish (incRp .bc s)

/-- INR B (R612). -/
def execInrB (s : State) : Result := finish (incReg .b s)

/-- DCR B (R614). -/
def execDcrB (s : State) : Result := finish (decReg .b s)

/-- DAD B (R618). -/
def execDadB (s : State) : Result := finish (addRp .bc s)

/-- DCX B (R617). -/
def execDcxB (s : State) : Result := finish (decRp .bc s)

/-- INR C (R612). -/
def execInrC (s : State) : Result := finish (incReg .c s)

/-- DCR C (R614). -/
def execDcrC (s : State) : Result := finish (decReg .c s)

/-- INX D (R616). -/
def execInxD (s : State) : Result := finish (incRp .de s)

/-- INR D (R612). -/
def execInrD (s : State) : Result := finish (incReg .d s)

/-- DCR D (R614). -/
def execDcrD (s : State) : Result := finish (decReg .d s)

/-- DAD D (R618). -/
def execDadD (s : State) : Result := finish (addRp .de s)

/-- DCX D (R617). -/
def execDcxD (s : State) : Result := finish (decRp .de s)

/-- INR E (R612). -/
def execInrE (s : State) : Result := finish (incReg .e s)

/-- DCR E (R614). -/
def execDcrE (s : State) : Result := finish (decReg .e s)

/-- INX H (R616). -/
def execInxH (s : State) : Result := finish (incRp .hl s)

/-- INR H (R612). -/
def execInrH (s : State) : Result := finish (incReg .h s)

/-- DCR H (R614). -/
def execDcrH (s : State) : Result := finish (decReg .h s)

/-- DAA (R619). -/
def execDaa (s : State) : Result := finish (adjustDecimal s)

/-- DAD H (R618). -/
def execDadH (s : State) : Result := finish (addRp .hl s)

/-- DCX H (R617). -/
def execDcxH (s : State) : Result := finish (decRp .hl s)

/-- INR L (R612). -/
def execInrL (s : State) : Result := finish (incReg .l s)

/-- DCR L (R614). -/
def execDcrL (s : State) : Result := finish (decReg .l s)

/-- INX SP (R616). -/
def execInxSP (s : State) : Result := finish (incRp .sp s)

/-- INR M (R613). -/
def execInrM (s : State) : Result := finish (incM s)

/-- DCR M (R615). -/
def execDcrM (s : State) : Result := finish (decM s)

/-- DAD SP (R618). -/
def execDadSP (s : State) : Result := finish (addRp .sp s)

/-- DCX SP (R617). -/
def execDcxSP (s : State) : Result := finish (decRp .sp s)

/-- INR A (R612). -/
def execInrA (s : State) : Result := finish (incReg .a s)

/-- DCR A (R614). -/
def execDcrA (s : State) : Result := finish (decReg .a s)

/-- ADD B (R600). -/
def execAddB (s : State) : Result := finish (aluSrc .add (.reg .b) s)

/-- ADD C (R600). -/
def execAddC (s : State) : Result := finish (aluSrc .add (.reg .c) s)

/-- ADD D (R600). -/
def execAddD (s : State) : Result := finish (aluSrc .add (.reg .d) s)

/-- ADD E (R600). -/
def execAddE (s : State) : Result := finish (aluSrc .add (.reg .e) s)

/-- ADD H (R600). -/
def execAddH (s : State) : Result := finish (aluSrc .add (.reg .h) s)

/-- ADD L (R600). -/
def execAddL (s : State) : Result := finish (aluSrc .add (.reg .l) s)

/-- ADD M (R601). -/
def execAddM (s : State) : Result := finish (aluSrc .add .m s)

/-- ADD A (R600). -/
def execAddA (s : State) : Result := finish (aluSrc .add (.reg .a) s)

/-- ADC B (R603). -/
def execAdcB (s : State) : Result := finish (aluSrc .adc (.reg .b) s)

/-- ADC C (R603). -/
def execAdcC (s : State) : Result := finish (aluSrc .adc (.reg .c) s)

/-- ADC D (R603). -/
def execAdcD (s : State) : Result := finish (aluSrc .adc (.reg .d) s)

/-- ADC E (R603). -/
def execAdcE (s : State) : Result := finish (aluSrc .adc (.reg .e) s)

/-- ADC H (R603). -/
def execAdcH (s : State) : Result := finish (aluSrc .adc (.reg .h) s)

/-- ADC L (R603). -/
def execAdcL (s : State) : Result := finish (aluSrc .adc (.reg .l) s)

/-- ADC M (R604). -/
def execAdcM (s : State) : Result := finish (aluSrc .adc .m s)

/-- ADC A (R603). -/
def execAdcA (s : State) : Result := finish (aluSrc .adc (.reg .a) s)

/-- SUB B (R606). -/
def execSubB (s : State) : Result := finish (aluSrc .sub (.reg .b) s)

/-- SUB C (R606). -/
def execSubC (s : State) : Result := finish (aluSrc .sub (.reg .c) s)

/-- SUB D (R606). -/
def execSubD (s : State) : Result := finish (aluSrc .sub (.reg .d) s)

/-- SUB E (R606). -/
def execSubE (s : State) : Result := finish (aluSrc .sub (.reg .e) s)

/-- SUB H (R606). -/
def execSubH (s : State) : Result := finish (aluSrc .sub (.reg .h) s)

/-- SUB L (R606). -/
def execSubL (s : State) : Result := finish (aluSrc .sub (.reg .l) s)

/-- SUB M (R607). -/
def execSubM (s : State) : Result := finish (aluSrc .sub .m s)

/-- SUB A (R606). -/
def execSubA (s : State) : Result := finish (aluSrc .sub (.reg .a) s)

/-- SBB B (R609). -/
def execSbbB (s : State) : Result := finish (aluSrc .sbb (.reg .b) s)

/-- SBB C (R609). -/
def execSbbC (s : State) : Result := finish (aluSrc .sbb (.reg .c) s)

/-- SBB D (R609). -/
def execSbbD (s : State) : Result := finish (aluSrc .sbb (.reg .d) s)

/-- SBB E (R609). -/
def execSbbE (s : State) : Result := finish (aluSrc .sbb (.reg .e) s)

/-- SBB H (R609). -/
def execSbbH (s : State) : Result := finish (aluSrc .sbb (.reg .h) s)

/-- SBB L (R609). -/
def execSbbL (s : State) : Result := finish (aluSrc .sbb (.reg .l) s)

/-- SBB M (R610). -/
def execSbbM (s : State) : Result := finish (aluSrc .sbb .m s)

/-- SBB A (R609). -/
def execSbbA (s : State) : Result := finish (aluSrc .sbb (.reg .a) s)

/-- ADI d8 (R602). -/
def execAdi (d8 : Byte) (s : State) : Result := finish (aluImm .add d8 s)

/-- ACI d8 (R605). -/
def execAci (d8 : Byte) (s : State) : Result := finish (aluImm .adc d8 s)

/-- SUI d8 (R608). -/
def execSui (d8 : Byte) (s : State) : Result := finish (aluImm .sub d8 s)

/-- SBI d8 (R611). -/
def execSbi (d8 : Byte) (s : State) : Result := finish (aluImm .sbb d8 s)

end Sys2Proof.Machine
end

