-- ==== Sys2Proof/Machine/Branch.lean ====
section
/-! DEFINITION. The branch instructions (spec/45_branch.md R900 to R931). PC is the address of the next instruction when
a meaning runs, so it is what CALL and RST push. No instruction here writes a flag. -/

namespace Sys2Proof.Machine

/-- JMP a16 (R900). -/
def jump (w : Word) (s : State) : Except Fault State := .ok { s with pc := w }

/-- Jcc a16 (R901). -/
def jumpIf (cc : Cond) (w : Word) (s : State) : Except Fault State :=
  if condHolds s.flags cc then jump w s else .ok s

/-- CALL a16 (R910). -/
def callTo (w : Word) (s : State) : Except Fault State := do
  let s1 ← s.push16 s.pc
  .ok { s1 with pc := w }

/-- Ccc a16 (R911). -/
def callIf (cc : Cond) (w : Word) (s : State) : Except Fault State :=
  if condHolds s.flags cc then callTo w s else .ok s

/-- Rcc (R921). -/
def returnIf (cc : Cond) (s : State) : Except Fault State :=
  if condHolds s.flags cc then s.returnFrom else .ok s

/-- PCHL (R931): the resolver does not apply. -/
def jumpToHl (s : State) : Except Fault State := .ok { s with pc := s.pair .hl }

/-! ## One meaning per row of the opcode table -/

/-- RNZ (R922). -/
def execRnz (s : State) : Result := finish (returnIf .nz s)

/-- JNZ a16 (R902). -/
def execJnz (a16 : Word) (s : State) : Result := finish (jumpIf .nz a16 s)

/-- JMP a16 (R900). -/
def execJmp (a16 : Word) (s : State) : Result := finish (jump a16 s)

/-- CNZ a16 (R912). -/
def execCnz (a16 : Word) (s : State) : Result := finish (callIf .nz a16 s)

/-- RST 0 (R930). -/
def execRst0 (s : State) : Result := finish (s.enterVector 0)

/-- RZ (R923). -/
def execRz (s : State) : Result := finish (returnIf .z s)

/-- RET (R920). -/
def execRet (s : State) : Result := finish (s.returnFrom)

/-- JZ a16 (R903). -/
def execJz (a16 : Word) (s : State) : Result := finish (jumpIf .z a16 s)

/-- CZ a16 (R913). -/
def execCz (a16 : Word) (s : State) : Result := finish (callIf .z a16 s)

/-- CALL a16 (R910). -/
def execCall (a16 : Word) (s : State) : Result := finish (callTo a16 s)

/-- RST 1 (R930). -/
def execRst1 (s : State) : Result := finish (s.enterVector 1)

/-- RNC (R924). -/
def execRnc (s : State) : Result := finish (returnIf .nc s)

/-- JNC a16 (R904). -/
def execJnc (a16 : Word) (s : State) : Result := finish (jumpIf .nc a16 s)

/-- CNC a16 (R914). -/
def execCnc (a16 : Word) (s : State) : Result := finish (callIf .nc a16 s)

/-- RST 2 (R930). -/
def execRst2 (s : State) : Result := finish (s.enterVector 2)

/-- RC (R925). -/
def execRc (s : State) : Result := finish (returnIf .c s)

/-- JC a16 (R905). -/
def execJc (a16 : Word) (s : State) : Result := finish (jumpIf .c a16 s)

/-- CC a16 (R915). -/
def execCc (a16 : Word) (s : State) : Result := finish (callIf .c a16 s)

/-- RST 3 (R930). -/
def execRst3 (s : State) : Result := finish (s.enterVector 3)

/-- RPO (R926). -/
def execRpo (s : State) : Result := finish (returnIf .po s)

/-- JPO a16 (R906). -/
def execJpo (a16 : Word) (s : State) : Result := finish (jumpIf .po a16 s)

/-- CPO a16 (R916). -/
def execCpo (a16 : Word) (s : State) : Result := finish (callIf .po a16 s)

/-- RST 4 (R930). -/
def execRst4 (s : State) : Result := finish (s.enterVector 4)

/-- RPE (R927). -/
def execRpe (s : State) : Result := finish (returnIf .pe s)

/-- PCHL (R931). -/
def execPchl (s : State) : Result := finish (jumpToHl s)

/-- JPE a16 (R907). -/
def execJpe (a16 : Word) (s : State) : Result := finish (jumpIf .pe a16 s)

/-- CPE a16 (R917). -/
def execCpe (a16 : Word) (s : State) : Result := finish (callIf .pe a16 s)

/-- RST 5 (R930). -/
def execRst5 (s : State) : Result := finish (s.enterVector 5)

/-- RP (R928). -/
def execRp (s : State) : Result := finish (returnIf .p s)

/-- JP a16 (R908). -/
def execJp (a16 : Word) (s : State) : Result := finish (jumpIf .p a16 s)

/-- CP a16 (R918). -/
def execCp (a16 : Word) (s : State) : Result := finish (callIf .p a16 s)

/-- RST 6 (R930). -/
def execRst6 (s : State) : Result := finish (s.enterVector 6)

/-- RM (R929). -/
def execRm (s : State) : Result := finish (returnIf .m s)

/-- JM a16 (R909). -/
def execJm (a16 : Word) (s : State) : Result := finish (jumpIf .m a16 s)

/-- CM a16 (R919). -/
def execCm (a16 : Word) (s : State) : Result := finish (callIf .m a16 s)

/-- RST 7 (R930). -/
def execRst7 (s : State) : Result := finish (s.enterVector 7)

end Sys2Proof.Machine
end

