-- ==== Sys2Proof/Machine/DataTransfer.lean ====
section
/-! DEFINITION. The data transfer instructions (spec/41_data_transfer.md R500 to R512): first the operations, one per
rule, then one meaning per row of the opcode table. PC is past the instruction's bytes when a meaning runs (R217).
No instruction here writes a flag. -/

namespace Sys2Proof.Machine

/-- MOV r1,r2 (R500). -/
def movRR (dst src : Reg) (s : State) : Except Fault State := .ok (s.setReg dst (s.reg src))

/-- MOV r,M (R501). -/
def movRM (dst : Reg) (s : State) : Except Fault State := do
  let (v, s1) ← s.readThrough .hl
  .ok (s1.setReg dst v)

/-- MOV M,r (R502): the register is read after the resolver. -/
def movMR (src : Reg) (s : State) : Except Fault State := s.writeThrough .hl (fun s1 => s1.reg src)

/-- MVI r,d8 (R503). -/
def mviR (dst : Reg) (v : Byte) (s : State) : Except Fault State := .ok (s.setReg dst v)

/-- MVI M,d8 (R504). -/
def mviM (v : Byte) (s : State) : Except Fault State := s.writeThrough .hl (fun _ => v)

/-- LXI rp,d16 (R505). -/
def lxiRp (p : Rp) (w : Word) (s : State) : Except Fault State := .ok (s.setRp p w)

/-- LDA a16 (R506): a direct address is not resolved. -/
def loadDirect (w : Word) (s : State) : Except Fault State := do
  let v ← s.read8 w.toNat
  .ok { s with a := v }

/-- STA a16 (R507). -/
def storeDirect (w : Word) (s : State) : Except Fault State := s.write8 w.toNat s.a

/-- LHLD a16 (R508): both bytes are read before H and L are written. -/
def loadHLDirect (w : Word) (s : State) : Except Fault State := do
  let v ← s.read16 w.toNat
  .ok (s.setPair .hl v)

/-- SHLD a16 (R509): L at the address, then H at the address plus one. -/
def storeHLDirect (w : Word) (s : State) : Except Fault State := s.write16 w.toNat (s.pair .hl)

/-- LDAX rp (R510). -/
def loadIndirect (p : IdxPair) (s : State) : Except Fault State := do
  let (v, s1) ← s.readThrough (idxPair p)
  .ok { s1 with a := v }

/-- STAX rp (R511). -/
def storeIndirect (p : IdxPair) (s : State) : Except Fault State := s.writeThrough (idxPair p) (fun s1 => s1.a)

/-- XCHG (R512): the resolver is not used. -/
def exchangeDeHl (s : State) : Except Fault State :=
  .ok { s with h := s.d, d := s.h, l := s.e, e := s.l }

/-! ## One meaning per row of the opcode table -/

/-- LXI B,d16 (R505). -/
def execLxiB (d16 : Word) (s : State) : Result := finish (lxiRp .bc d16 s)

/-- STAX B (R511). -/
def execStaxB (s : State) : Result := finish (storeIndirect .bc s)

/-- MVI B,d8 (R503). -/
def execMviB (d8 : Byte) (s : State) : Result := finish (mviR .b d8 s)

/-- LDAX B (R510). -/
def execLdaxB (s : State) : Result := finish (loadIndirect .bc s)

/-- MVI C,d8 (R503). -/
def execMviC (d8 : Byte) (s : State) : Result := finish (mviR .c d8 s)

/-- LXI D,d16 (R505). -/
def execLxiD (d16 : Word) (s : State) : Result := finish (lxiRp .de d16 s)

/-- STAX D (R511). -/
def execStaxD (s : State) : Result := finish (storeIndirect .de s)

/-- MVI D,d8 (R503). -/
def execMviD (d8 : Byte) (s : State) : Result := finish (mviR .d d8 s)

/-- LDAX D (R510). -/
def execLdaxD (s : State) : Result := finish (loadIndirect .de s)

/-- MVI E,d8 (R503). -/
def execMviE (d8 : Byte) (s : State) : Result := finish (mviR .e d8 s)

/-- LXI H,d16 (R505). -/
def execLxiH (d16 : Word) (s : State) : Result := finish (lxiRp .hl d16 s)

/-- SHLD a16 (R509). -/
def execShld (a16 : Word) (s : State) : Result := finish (storeHLDirect a16 s)

/-- MVI H,d8 (R503). -/
def execMviH (d8 : Byte) (s : State) : Result := finish (mviR .h d8 s)

/-- LHLD a16 (R508). -/
def execLhld (a16 : Word) (s : State) : Result := finish (loadHLDirect a16 s)

/-- MVI L,d8 (R503). -/
def execMviL (d8 : Byte) (s : State) : Result := finish (mviR .l d8 s)

/-- LXI SP,d16 (R505). -/
def execLxiSP (d16 : Word) (s : State) : Result := finish (lxiRp .sp d16 s)

/-- STA a16 (R507). -/
def execSta (a16 : Word) (s : State) : Result := finish (storeDirect a16 s)

/-- MVI M,d8 (R504). -/
def execMviM (d8 : Byte) (s : State) : Result := finish (mviM d8 s)

/-- LDA a16 (R506). -/
def execLda (a16 : Word) (s : State) : Result := finish (loadDirect a16 s)

/-- MVI A,d8 (R503). -/
def execMviA (d8 : Byte) (s : State) : Result := finish (mviR .a d8 s)

/-- MOV B,B (R500). -/
def execMovBB (s : State) : Result := finish (movRR .b .b s)

/-- MOV B,C (R500). -/
def execMovBC (s : State) : Result := finish (movRR .b .c s)

/-- MOV B,D (R500). -/
def execMovBD (s : State) : Result := finish (movRR .b .d s)

/-- MOV B,E (R500). -/
def execMovBE (s : State) : Result := finish (movRR .b .e s)

/-- MOV B,H (R500). -/
def execMovBH (s : State) : Result := finish (movRR .b .h s)

/-- MOV B,L (R500). -/
def execMovBL (s : State) : Result := finish (movRR .b .l s)

/-- MOV B,M (R501). -/
def execMovBM (s : State) : Result := finish (movRM .b s)

/-- MOV B,A (R500). -/
def execMovBA (s : State) : Result := finish (movRR .b .a s)

/-- MOV C,B (R500). -/
def execMovCB (s : State) : Result := finish (movRR .c .b s)

/-- MOV C,C (R500). -/
def execMovCC (s : State) : Result := finish (movRR .c .c s)

/-- MOV C,D (R500). -/
def execMovCD (s : State) : Result := finish (movRR .c .d s)

/-- MOV C,E (R500). -/
def execMovCE (s : State) : Result := finish (movRR .c .e s)

/-- MOV C,H (R500). -/
def execMovCH (s : State) : Result := finish (movRR .c .h s)

/-- MOV C,L (R500). -/
def execMovCL (s : State) : Result := finish (movRR .c .l s)

/-- MOV C,M (R501). -/
def execMovCM (s : State) : Result := finish (movRM .c s)

/-- MOV C,A (R500). -/
def execMovCA (s : State) : Result := finish (movRR .c .a s)

/-- MOV D,B (R500). -/
def execMovDB (s : State) : Result := finish (movRR .d .b s)

/-- MOV D,C (R500). -/
def execMovDC (s : State) : Result := finish (movRR .d .c s)

/-- MOV D,D (R500). -/
def execMovDD (s : State) : Result := finish (movRR .d .d s)

/-- MOV D,E (R500). -/
def execMovDE (s : State) : Result := finish (movRR .d .e s)

/-- MOV D,H (R500). -/
def execMovDH (s : State) : Result := finish (movRR .d .h s)

/-- MOV D,L (R500). -/
def execMovDL (s : State) : Result := finish (movRR .d .l s)

/-- MOV D,M (R501). -/
def execMovDM (s : State) : Result := finish (movRM .d s)

/-- MOV D,A (R500). -/
def execMovDA (s : State) : Result := finish (movRR .d .a s)

/-- MOV E,B (R500). -/
def execMovEB (s : State) : Result := finish (movRR .e .b s)

/-- MOV E,C (R500). -/
def execMovEC (s : State) : Result := finish (movRR .e .c s)

/-- MOV E,D (R500). -/
def execMovED (s : State) : Result := finish (movRR .e .d s)

/-- MOV E,E (R500). -/
def execMovEE (s : State) : Result := finish (movRR .e .e s)

/-- MOV E,H (R500). -/
def execMovEH (s : State) : Result := finish (movRR .e .h s)

/-- MOV E,L (R500). -/
def execMovEL (s : State) : Result := finish (movRR .e .l s)

/-- MOV E,M (R501). -/
def execMovEM (s : State) : Result := finish (movRM .e s)

/-- MOV E,A (R500). -/
def execMovEA (s : State) : Result := finish (movRR .e .a s)

/-- MOV H,B (R500). -/
def execMovHB (s : State) : Result := finish (movRR .h .b s)

/-- MOV H,C (R500). -/
def execMovHC (s : State) : Result := finish (movRR .h .c s)

/-- MOV H,D (R500). -/
def execMovHD (s : State) : Result := finish (movRR .h .d s)

/-- MOV H,E (R500). -/
def execMovHE (s : State) : Result := finish (movRR .h .e s)

/-- MOV H,H (R500). -/
def execMovHH (s : State) : Result := finish (movRR .h .h s)

/-- MOV H,L (R500). -/
def execMovHL (s : State) : Result := finish (movRR .h .l s)

/-- MOV H,M (R501). -/
def execMovHM (s : State) : Result := finish (movRM .h s)

/-- MOV H,A (R500). -/
def execMovHA (s : State) : Result := finish (movRR .h .a s)

/-- MOV L,B (R500). -/
def execMovLB (s : State) : Result := finish (movRR .l .b s)

/-- MOV L,C (R500). -/
def execMovLC (s : State) : Result := finish (movRR .l .c s)

/-- MOV L,D (R500). -/
def execMovLD (s : State) : Result := finish (movRR .l .d s)

/-- MOV L,E (R500). -/
def execMovLE (s : State) : Result := finish (movRR .l .e s)

/-- MOV L,H (R500). -/
def execMovLH (s : State) : Result := finish (movRR .l .h s)

/-- MOV L,L (R500). -/
def execMovLL (s : State) : Result := finish (movRR .l .l s)

/-- MOV L,M (R501). -/
def execMovLM (s : State) : Result := finish (movRM .l s)

/-- MOV L,A (R500). -/
def execMovLA (s : State) : Result := finish (movRR .l .a s)

/-- MOV M,B (R502). -/
def execMovMB (s : State) : Result := finish (movMR .b s)

/-- MOV M,C (R502). -/
def execMovMC (s : State) : Result := finish (movMR .c s)

/-- MOV M,D (R502). -/
def execMovMD (s : State) : Result := finish (movMR .d s)

/-- MOV M,E (R502). -/
def execMovME (s : State) : Result := finish (movMR .e s)

/-- MOV M,H (R502). -/
def execMovMH (s : State) : Result := finish (movMR .h s)

/-- MOV M,L (R502). -/
def execMovML (s : State) : Result := finish (movMR .l s)

/-- MOV M,A (R502). -/
def execMovMA (s : State) : Result := finish (movMR .a s)

/-- MOV A,B (R500). -/
def execMovAB (s : State) : Result := finish (movRR .a .b s)

/-- MOV A,C (R500). -/
def execMovAC (s : State) : Result := finish (movRR .a .c s)

/-- MOV A,D (R500). -/
def execMovAD (s : State) : Result := finish (movRR .a .d s)

/-- MOV A,E (R500). -/
def execMovAE (s : State) : Result := finish (movRR .a .e s)

/-- MOV A,H (R500). -/
def execMovAH (s : State) : Result := finish (movRR .a .h s)

/-- MOV A,L (R500). -/
def execMovAL (s : State) : Result := finish (movRR .a .l s)

/-- MOV A,M (R501). -/
def execMovAM (s : State) : Result := finish (movRM .a s)

/-- MOV A,A (R500). -/
def execMovAA (s : State) : Result := finish (movRR .a .a s)

/-- XCHG (R512). -/
def execXchg (s : State) : Result := finish (exchangeDeHl s)

end Sys2Proof.Machine
end

