-- ==== Sys2Proof/Machine/Io.lean ====
section
/-! DEFINITION. The I/O instructions (spec/46_io.md R1000, R1001). -/

namespace Sys2Proof.Machine

/-- IN p8 (R1000). -/
def inputPort (p : Byte) (s : State) : Except Fault State :=
  .ok { (s.portIn p).2 with a := (s.portIn p).1 }

/-- OUT p8 (R1001). -/
def outputPort (p : Byte) (s : State) : Except Fault State := .ok (s.portOut p s.a)

/-! ## One meaning per row of the opcode table -/

/-- OUT d8 (R1001). -/
def execOut (d8 : Byte) (s : State) : Result := finish (outputPort d8 s)

/-- IN d8 (R1000). -/
def execInp (d8 : Byte) (s : State) : Result := finish (inputPort d8 s)

end Sys2Proof.Machine
end

