-- ==== Sys2Proof/Machine/Logical.lean ====
section
/-! DEFINITION. The logical, compare, rotate and carry instructions (spec/43_logical.md R700 to R718). The AND, XOR, OR
and compare forms are the shared ALU operations of Machine/Arithmetic.lean. -/

namespace Sys2Proof.Machine

/-- Put a rotate's new A and CY into the state: the rotates write CY only (R712 to R715). -/
def setRotated (s : State) (r : Byte × Bool) : State :=
  { s with a := r.1, flags := { s.flags with cy := r.2 } }

/-- RLC (R712). -/
def rotateLeft (s : State) : Except Fault State := .ok (setRotated s (rlc8 s.a))

/-- RRC (R713). -/
def rotateRight (s : State) : Except Fault State := .ok (setRotated s (rrc8 s.a))

/-- RAL (R714). -/
def rotateLeftCarry (s : State) : Except Fault State := .ok (setRotated s (ral8 s.a s.flags.cy))

/-- RAR (R715). -/
def rotateRightCarry (s : State) : Except Fault State := .ok (setRotated s (rar8 s.a s.flags.cy))

/-- CMA (R716): no flag. -/
def complementA (s : State) : Except Fault State := .ok { s with a := ~~~s.a }

/-- STC (R717). -/
def setCarry (s : State) : Except Fault State := .ok { s with flags := { s.flags with cy := true } }

/-- CMC (R718). -/
def complementCarry (s : State) : Except Fault State := .ok { s with flags := { s.flags with cy := !s.flags.cy } }

/-! ## One meaning per row of the opcode table -/

/-- RLC (R712). -/
def execRlc (s : State) : Result := finish (rotateLeft s)

/-- RRC (R713). -/
def execRrc (s : State) : Result := finish (rotateRight s)

/-- RAL (R714). -/
def execRal (s : State) : Result := finish (rotateLeftCarry s)

/-- RAR (R715). -/
def execRar (s : State) : Result := finish (rotateRightCarry s)

/-- CMA (R716). -/
def execCma (s : State) : Result := finish (complementA s)

/-- STC (R717). -/
def execStc (s : State) : Result := finish (setCarry s)

/-- CMC (R718). -/
def execCmc (s : State) : Result := finish (complementCarry s)

/-- ANA B (R700). -/
def execAnaB (s : State) : Result := finish (aluSrc .ana (.reg .b) s)

/-- ANA C (R700). -/
def execAnaC (s : State) : Result := finish (aluSrc .ana (.reg .c) s)

/-- ANA D (R700). -/
def execAnaD (s : State) : Result := finish (aluSrc .ana (.reg .d) s)

/-- ANA E (R700). -/
def execAnaE (s : State) : Result := finish (aluSrc .ana (.reg .e) s)

/-- ANA H (R700). -/
def execAnaH (s : State) : Result := finish (aluSrc .ana (.reg .h) s)

/-- ANA L (R700). -/
def execAnaL (s : State) : Result := finish (aluSrc .ana (.reg .l) s)

/-- ANA M (R701). -/
def execAnaM (s : State) : Result := finish (aluSrc .ana .m s)

/-- ANA A (R700). -/
def execAnaA (s : State) : Result := finish (aluSrc .ana (.reg .a) s)

/-- XRA B (R703). -/
def execXraB (s : State) : Result := finish (aluSrc .xra (.reg .b) s)

/-- XRA C (R703). -/
def execXraC (s : State) : Result := finish (aluSrc .xra (.reg .c) s)

/-- XRA D (R703). -/
def execXraD (s : State) : Result := finish (aluSrc .xra (.reg .d) s)

/-- XRA E (R703). -/
def execXraE (s : State) : Result := finish (aluSrc .xra (.reg .e) s)

/-- XRA H (R703). -/
def execXraH (s : State) : Result := finish (aluSrc .xra (.reg .h) s)

/-- XRA L (R703). -/
def execXraL (s : State) : Result := finish (aluSrc .xra (.reg .l) s)

/-- XRA M (R704). -/
def execXraM (s : State) : Result := finish (aluSrc .xra .m s)

/-- XRA A (R703). -/
def execXraA (s : State) : Result := finish (aluSrc .xra (.reg .a) s)

/-- ORA B (R706). -/
def execOraB (s : State) : Result := finish (aluSrc .ora (.reg .b) s)

/-- ORA C (R706). -/
def execOraC (s : State) : Result := finish (aluSrc .ora (.reg .c) s)

/-- ORA D (R706). -/
def execOraD (s : State) : Result := finish (aluSrc .ora (.reg .d) s)

/-- ORA E (R706). -/
def execOraE (s : State) : Result := finish (aluSrc .ora (.reg .e) s)

/-- ORA H (R706). -/
def execOraH (s : State) : Result := finish (aluSrc .ora (.reg .h) s)

/-- ORA L (R706). -/
def execOraL (s : State) : Result := finish (aluSrc .ora (.reg .l) s)

/-- ORA M (R707). -/
def execOraM (s : State) : Result := finish (aluSrc .ora .m s)

/-- ORA A (R706). -/
def execOraA (s : State) : Result := finish (aluSrc .ora (.reg .a) s)

/-- CMP B (R709). -/
def execCmpB (s : State) : Result := finish (aluSrc .cmp (.reg .b) s)

/-- CMP C (R709). -/
def execCmpC (s : State) : Result := finish (aluSrc .cmp (.reg .c) s)

/-- CMP D (R709). -/
def execCmpD (s : State) : Result := finish (aluSrc .cmp (.reg .d) s)

/-- CMP E (R709). -/
def execCmpE (s : State) : Result := finish (aluSrc .cmp (.reg .e) s)

/-- CMP H (R709). -/
def execCmpH (s : State) : Result := finish (aluSrc .cmp (.reg .h) s)

/-- CMP L (R709). -/
def execCmpL (s : State) : Result := finish (aluSrc .cmp (.reg .l) s)

/-- CMP M (R710). -/
def execCmpM (s : State) : Result := finish (aluSrc .cmp .m s)

/-- CMP A (R709). -/
def execCmpA (s : State) : Result := finish (aluSrc .cmp (.reg .a) s)

/-- ANI d8 (R702). -/
def execAni (d8 : Byte) (s : State) : Result := finish (aluImm .ana d8 s)

/-- XRI d8 (R705). -/
def execXri (d8 : Byte) (s : State) : Result := finish (aluImm .xra d8 s)

/-- ORI d8 (R708). -/
def execOri (d8 : Byte) (s : State) : Result := finish (aluImm .ora d8 s)

/-- CPI d8 (R711). -/
def execCpi (d8 : Byte) (s : State) : Result := finish (aluImm .cmp d8 s)

end Sys2Proof.Machine
end

