-- ==== Sys2Proof/Machine/Special.lean ====
section
/-! DEFINITION. The special instructions and the twelve opcodes without a handler (spec/47_special.md R1100 to R1104). -/

namespace Sys2Proof.Machine

/-- HLT (R1101): the step still completes. -/
def halt (s : State) : Except Fault State := .ok { s with status := .halted }

/-- EI (R1102) and DI (R1103): at once. -/
def setIe (v : Bool) (s : State) : Except Fault State := .ok { s with ie := v }

/-- The opcodes without a handler (R1104): the fault carries the opcode and its own address, which is one below the PC
the dispatcher has advanced. -/
def raiseUnimplemented (op : Byte) (s : State) : Except Fault State :=
  .error (.unimplementedOpcode op (s.pc - 1))

/-! ## One meaning per row of the opcode table -/

/-- NOP (R1100). -/
def execNop (s : State) : Result := finish (.ok s)

/-- Opcode 0x08, no handler (R1104). -/
def execUnimpl08 (s : State) : Result := finish (raiseUnimplemented 0x08 s)

/-- Opcode 0x10, no handler (R1104). -/
def execUnimpl10 (s : State) : Result := finish (raiseUnimplemented 0x10 s)

/-- Opcode 0x18, no handler (R1104). -/
def execUnimpl18 (s : State) : Result := finish (raiseUnimplemented 0x18 s)

/-- Opcode 0x20, no handler (R1104). -/
def execUnimpl20 (s : State) : Result := finish (raiseUnimplemented 0x20 s)

/-- Opcode 0x28, no handler (R1104). -/
def execUnimpl28 (s : State) : Result := finish (raiseUnimplemented 0x28 s)

/-- Opcode 0x30, no handler (R1104). -/
def execUnimpl30 (s : State) : Result := finish (raiseUnimplemented 0x30 s)

/-- Opcode 0x38, no handler (R1104). -/
def execUnimpl38 (s : State) : Result := finish (raiseUnimplemented 0x38 s)

/-- HLT (R1101). -/
def execHlt (s : State) : Result := finish (halt s)

/-- Opcode 0xCB, no handler (R1104). -/
def execUnimplCB (s : State) : Result := finish (raiseUnimplemented 0xCB s)

/-- Opcode 0xD9, no handler (R1104). -/
def execUnimplD9 (s : State) : Result := finish (raiseUnimplemented 0xD9 s)

/-- Opcode 0xDD, no handler (R1104). -/
def execUnimplDD (s : State) : Result := finish (raiseUnimplemented 0xDD s)

/-- Opcode 0xED, no handler (R1104). -/
def execUnimplED (s : State) : Result := finish (raiseUnimplemented 0xED s)

/-- DI (R1103). -/
def execDi (s : State) : Result := finish (setIe false s)

/-- EI (R1102). -/
def execEi (s : State) : Result := finish (setIe true s)

/-- Opcode 0xFD, no handler (R1104). -/
def execUnimplFD (s : State) : Result := finish (raiseUnimplemented 0xFD s)

end Sys2Proof.Machine
end

