-- ==== Sys2Proof/Machine/Stack.lean ====
section
/-! DEFINITION. The stack instructions (spec/44_stack.md R804 to R809). The post-step stack guard is the step's
(Machine/Cycle.lean). -/

namespace Sys2Proof.Machine

/-- PUSH rp (R804). -/
def pushPair (p : Pair) (s : State) : Except Fault State := s.push16 (s.pair p)

/-- PUSH PSW (R805): A high, the packed flags low. -/
def pushPsw (s : State) : Except Fault State := s.push16 (cat s.a (packFlags s.cfg.psw s.flags))

/-- POP rp (R806). -/
def popPair (p : Pair) (s : State) : Except Fault State := do
  let (w, s1) ← s.pop16
  .ok (s1.setPair p w)

/-- POP PSW (R807). -/
def popPsw (s : State) : Except Fault State := do
  let (w, s1) ← s.pop16
  .ok { s1 with a := hi8 w, flags := unpackFlags s1.cfg.psw (lo8 w) s1.flags }

/-- XTHL (R808): both reads, then both writes, then L and H. -/
def exchangeTop (s : State) : Except Fault State := do
  let lo ← s.read8 s.sp.toNat
  let hi ← s.read8 (s.sp.toNat + 1)
  let s1 ← s.write8 s.sp.toNat s.l
  let s2 ← s1.write8 (s.sp.toNat + 1) s.h
  .ok { s2 with l := lo, h := hi }

/-- SPHL (R809): the resolver does not apply. -/
def loadSpFromHl (s : State) : Except Fault State := .ok { s with sp := s.pair .hl }

/-! ## One meaning per row of the opcode table -/

/-- POP B (R806). -/
def execPopB (s : State) : Result := finish (popPair .bc s)

/-- PUSH B (R804). -/
def execPushB (s : State) : Result := finish (pushPair .bc s)

/-- POP D (R806). -/
def execPopD (s : State) : Result := finish (popPair .de s)

/-- PUSH D (R804). -/
def execPushD (s : State) : Result := finish (pushPair .de s)

/-- POP H (R806). -/
def execPopH (s : State) : Result := finish (popPair .hl s)

/-- XTHL (R808). -/
def execXthl (s : State) : Result := finish (exchangeTop s)

/-- PUSH H (R804). -/
def execPushH (s : State) : Result := finish (pushPair .hl s)

/-- POP PSW (R807). -/
def execPopPSW (s : State) : Result := finish (popPsw s)

/-- PUSH PSW (R805). -/
def execPushPSW (s : State) : Result := finish (pushPsw s)

/-- SPHL (R809). -/
def execSphl (s : State) : Result := finish (loadSpFromHl s)

end Sys2Proof.Machine
end

