-- ==== Sys2Proof/Machine/Interrupt.lean ====
section
/-! DEFINITION. The interrupt controller (spec/60_exceptions.md R1206 to R1213): the two operations of the host,
`set_vector` and `generate_interrupt`. An interrupt enters through the shared `State.enterVector`. -/

namespace Sys2Proof.Machine

/-- The number of a vector, 1 to 7 (R111). -/
def vectorNumber : IntVector → Nat
  | .v1 => 1 | .v2 => 2 | .v3 => 3 | .v4 => 4 | .v5 => 5 | .v6 => 6 | .v7 => 7

/-- The vector with a number, if the number is in 1 to 7 (R1208). -/
def vectorOf : Nat → Option IntVector
  | 1 => some .v1 | 2 => some .v2 | 3 => some .v3 | 4 => some .v4 | 5 => some .v5 | 6 => some .v6 | 7 => some .v7
  | _ => none

/-- The cycles an accepted interrupt adds (R5, R1209). -/
def interruptCost : Nat := 11

/-- `set_vector(n)` (R1208, R1216): refused outside 1 to 7, with no state change. -/
def setVector (n : Nat) (s : State) : Result :=
  if s.status = .running then
    match vectorOf n with
    | some v => .next { s with ivec := some v }
    | none => .refused (.vectorOutOfRange n)
  else .refused .notRunning

/-- An accepted interrupt (R1209): push the PC, go to `8 * IVEC`, add 11 to CYC, clear IE; no post-step guard runs. -/
def takeInterrupt (v : IntVector) (s : State) : Except Fault State := do
  let s1 ← s.enterVector (vectorNumber v)
  .ok { s1 with cyc := s1.cyc + interruptCost, ie := false }

/-- `generate_interrupt()` (R1209, R1210). -/
def generateInterrupt (s : State) : Result :=
  if s.status = .running then
    if s.ie then
      match s.ivec with
      | some v => finish (takeInterrupt v s)
      | none => .refused .vectorUnset
    else .next s
  else .refused .notRunning

end Sys2Proof.Machine
end

