-- ==== Sys2Proof/Machine/Cycle.lean ====
section
/-! DEFINITION. The step of spec/40_dispatch_alu.md (R400 to R405, R420) around `exec`: fetching an instruction's bytes,
its fixed cost and the post-step guards; the host's operations in the order it calls them (spec/60_exceptions.md R1216);
and STATUS after a fault (R1205). -/

namespace Sys2Proof.Machine

/-- `CYCLE_COST[op]` (R402). -/
def cycleCostOf (cfg : Config) (op : Byte) : Nat := cfg.cycleCost.getD op.toNat 0

/-- The opcode and operand fetches (R401, R209, R217): the opcode byte, the instruction, and the state with PC past all
its bytes. -/
def fetchInstr (s : State) : Except Fault (Byte × Instr × State) := do
  let (op, s1) ← s.fetch8
  match decodeOp op with
  | .f1 i => .ok (op, i, s1)
  | .f2 f =>
    let (v, s2) ← s1.fetch8
    .ok (op, f v, s2)
  | .f3 f =>
    let (w, s2) ← s1.fetch16
    .ok (op, f w, s2)

/-- `StackGuard()` (R403): strict comparisons. -/
def stackGuard (s : State) : State :=
  if s.sp.toNat < s.cfg.romBoundary ∨ s.cfg.memSize < s.sp.toNat then { s with sp := 0 } else s

/-- `PcGuard()` (R404): a strict comparison. -/
def pcGuard (s : State) : State :=
  if s.cfg.memSize < s.pc.toNat then { s with pc := 0 } else s

/-- What follows an instruction that completes (R401, R405): its cost, the stack guard, the PC guard. -/
def completeStep (cost : Nat) (s : State) : State :=
  pcGuard (stackGuard { s with cyc := s.cyc + cost })

/-- `step()` (R400, R401): one instruction. The cost it returns to the host is the growth of CYC (log entry 7). -/
def stepInstr (s : State) : Result :=
  if s.status = .running then
    match fetchInstr s with
    | .error r => .fault r
    | .ok (op, i, s1) =>
      match exec i s1 with
      | .next s2 => .next (completeStep (cycleCostOf s.cfg op) s2)
      | .fault r => .fault r
      | .refused r => .refused r
  else .refused .notRunning

/-- One operation of the host (R1216). -/
def hostCall (c : HostCall) (s : State) : Result :=
  match c with
  | .step => stepInstr s
  | .setVector n => setVector n s
  | .generateInterrupt => generateInterrupt s

/-- The next operation of the host: the first of `hostCalls`, or `step()` when none is listed (R1215, R1308; log entry
6). -/
def nextOperation (s : State) : Result :=
  match s.hostCalls with
  | [] => stepInstr s
  | c :: cs => hostCall c { s with hostCalls := cs }

/-- The state the host reads after an operation: a fault leaves STATUS `Faulted(reason)` (R112, R1205; the other values
are unspecified then, and this keeps those of before the operation, as R1205 allows; log entry 4), and a refusal
changes nothing. -/
def afterOperation (s : State) (o : Result) : State :=
  match o with
  | .next t => t
  | .fault r => { s with status := .faulted r }
  | .refused _ => s

/-- Where the next instruction's bytes are placed by `withFetchWord`: at PC, or at 0 when one of the longest
instruction's three bytes there would not be in the buffer. -/
def fetchPlace (s : State) : Word :=
  if s.pc.toNat < s.cfg.memSize ∧ (s.pc + 1).toNat < s.cfg.memSize ∧ (s.pc + 2).toNat < s.cfg.memSize then s.pc else 0

/-- Place three bytes where the step fetches its next instruction (a load from outside the machine: no write guard,
R1301), the core running and the host's next call being `step()`. -/
def placeInstr (s : State) (b0 b1 b2 : Byte) : State :=
  let p := fetchPlace s
  { s with pc := p
           status := .running
           hostCalls := []
           mem := Memory.write (Memory.write (Memory.write s.mem p.toNat b0) (p + 1).toNat b1) (p + 2).toNat b2 }

end Sys2Proof.Machine
end

