-- ==== Sys2Proof/Safety.lean ====
section
/-! DEFINITION. The terms the claims use: the invariant of the machine, the frame of an instruction, where a write
lands, and the spec's result rules in closed form, written from the spec's words and not from the model's operations. -/

namespace Sys2Proof.Machine

/-! ## The invariant -/

/-- What every step keeps: a legal configuration (R5), memory in canonical form that lists only backed addresses
(R200), and a PC that does not exceed MEM_SIZE (R106, R404). -/
structure State.Inv (s : State) : Prop where
  config : s.cfg.wf
  memory : Memory.wf s.mem
  backed : ∀ x ∈ s.mem, x.1 < s.cfg.memSize
  pcBound : s.pc.toNat ≤ s.cfg.memSize

/-! ## Frames -/

/-- Every register but the listed ones, and all of the control state, the configuration and the port record, are as
before. -/
structure Keeps (rs : List Reg) (s t : State) : Prop where
  regs : ∀ r, r ∉ rs → t.reg r = s.reg r
  ie : t.ie = s.ie
  ivec : t.ivec = s.ivec
  status : t.status = s.status
  cyc : t.cyc = s.cyc
  cfg : t.cfg = s.cfg
  portAnswers : t.portAnswers = s.portAnswers
  inCount : t.inCount = s.inCount
  outTrace : t.outTrace = s.outTrace
  hostCalls : t.hostCalls = s.hostCalls

/-- Every byte of memory reads as before. -/
abbrev SameMemory (s t : State) : Prop := ∀ x, t.readByte x = s.readByte x

/-- Nothing but the listed registers has changed. -/
structure RegistersOnly (rs : List Reg) (s t : State) : Prop extends Keeps rs s t where
  flags : t.flags = s.flags
  sp : t.sp = s.sp
  pc : t.pc = s.pc
  memory : SameMemory s t

/-- Nothing but the listed registers and the flags has changed. -/
structure RegistersAndFlagsOnly (rs : List Reg) (s t : State) : Prop extends Keeps rs s t where
  sp : t.sp = s.sp
  pc : t.pc = s.pc
  memory : SameMemory s t

/-- The registers a 16-bit operand names. -/
def rpRegs : Rp → List Reg
  | .bc => [.b, .c]
  | .de => [.d, .e]
  | .hl => [.h, .l]
  | .sp => []

/-- The registers of a pair. -/
def pairRegs : Pair → List Reg
  | .bc => [.b, .c]
  | .de => [.d, .e]
  | .hl => [.h, .l]

/-! ## Where a write lands (R202 to R204) -/

/-- A write to `a` raises no fault: its remapped address is guarded or backed. -/
abbrev State.Writable (s : State) (a : Nat) : Prop :=
  s.remap a ≤ s.cfg.romBoundary ∨ s.remap a < s.cfg.memSize

/-- Memory after a write of `v` to `a`: the remapped address holds `v` unless the guard discards the write, and every
other address is as in `m`. -/
def State.afterWrite (s : State) (a : Nat) (v : Byte) (m : Nat → Byte) : Nat → Byte :=
  fun x => if s.cfg.romBoundary < s.remap a ∧ x = s.remap a then v else m x

/-- Memory after a push of `v` from the stack pointer of `s`: the high byte at SP - 2 + 1, then the low byte at SP - 2
(R800). -/
def State.afterPush (s : State) (v : Word) : Nat → Byte :=
  s.afterWrite (s.sp - 2).toNat (lo8 v) (s.afterWrite ((s.sp - 2).toNat + 1) (hi8 v) s.readByte)

/-- A push raises no fault. -/
abbrev State.Pushable (s : State) : Prop :=
  s.Writable ((s.sp - 2).toNat + 1) ∧ s.Writable (s.sp - 2).toNat

/-- A pop raises no fault (R801). -/
abbrev State.Poppable (s : State) : Prop := s.sp.toNat + 1 < s.cfg.memSize

/-- The 16-bit value at the top of the stack (R801). -/
def State.top (s : State) : Word := cat (s.readByte (s.sp.toNat + 1)) (s.readByte s.sp.toNat)

/-- An address is in the mirror range (R204). -/
abbrev State.Mirrored (s : State) (a : Nat) : Prop := s.cfg.mirrorLo ≤ a ∧ a ≤ s.cfg.mirrorHi

/-- The bytes of memory at PC, wrapping at 2^16 (R209), are backed and equal to a list. -/
def State.BytesAtPc (s : State) : List Byte → Word → Prop
  | [], _ => True
  | b :: bs, p => p.toNat < s.cfg.memSize ∧ s.readByte p.toNat = b ∧ State.BytesAtPc s bs (p + 1)

/-! ## Results in closed form -/

/-- The number of 1 bits of a byte. -/
def ones (v : Byte) : Nat := ((List.finRange 8).filter (fun i => v.getLsb i)).length

/-- Z, S and P of a result byte (R406, R620). -/
def ResultFlags (r : Byte) (f : Flags) : Prop :=
  (f.z = true ↔ r = 0) ∧ (f.s = true ↔ 128 ≤ r.toNat) ∧ (f.p = true ↔ ones r % 2 = 0)

/-- An addition with carry-in: result mod 256, CY the carry out of bit 7, AC the carry out of bit 3 (R407, R408). -/
def SumRule (a v : Byte) (c : Bool) (r : Byte) (f : Flags) : Prop :=
  r.toNat = (a.toNat + v.toNat + c.toNat) % 256 ∧ ResultFlags r f ∧
  (f.cy = true ↔ 256 ≤ a.toNat + v.toNat + c.toNat) ∧
  (f.ac = true ↔ 16 ≤ a.toNat % 16 + v.toNat % 16 + c.toNat)

/-- A subtraction with borrow-in: result mod 256, CY the borrow, AC set when bit 4 lends no borrow (R409). -/
def DiffRule (a v : Byte) (c : Bool) (r : Byte) (f : Flags) : Prop :=
  r.toNat = (a.toNat + 256 - v.toNat - c.toNat) % 256 ∧ ResultFlags r f ∧
  (f.cy = true ↔ a.toNat < v.toNat + c.toNat) ∧
  (f.ac = true ↔ v.toNat % 16 + c.toNat ≤ a.toNat % 16)

/-- The new A and flags of an ALU operation on A = `a`, operand `v` and flags `f` (R600 to R611, R700 to R711). -/
def AluRule (o : AluOp) (a v : Byte) (f : Flags) (a' : Byte) (f' : Flags) : Prop :=
  match o with
  | .add => SumRule a v false a' f'
  | .adc => SumRule a v f.cy a' f'
  | .sub => DiffRule a v false a' f'
  | .sbb => DiffRule a v f.cy a' f'
  | .ana => (∀ i : Fin 8, a'.getLsb i = (a.getLsb i && v.getLsb i)) ∧ ResultFlags a' f' ∧ f'.cy = false ∧
      f'.ac = (a.getLsb 3 || v.getLsb 3)
  | .xra => (∀ i : Fin 8, a'.getLsb i = (a.getLsb i != v.getLsb i)) ∧ ResultFlags a' f' ∧ f'.cy = false ∧
      f'.ac = false
  | .ora => (∀ i : Fin 8, a'.getLsb i = (a.getLsb i || v.getLsb i)) ∧ ResultFlags a' f' ∧ f'.cy = false ∧
      f'.ac = false
  | .cmp => a' = a ∧ ∃ r, DiffRule a v false r f'

/-- INR: add 1 mod 256, CY unchanged, AC when the old low nibble was 0xF (R612). -/
def IncRule (v : Byte) (f : Flags) (r : Byte) (f' : Flags) : Prop :=
  r.toNat = (v.toNat + 1) % 256 ∧ ResultFlags r f' ∧ f'.cy = f.cy ∧ (f'.ac = true ↔ v.toNat % 16 = 15)

/-- DCR: subtract 1 mod 256, CY unchanged, AC when the old low nibble was not 0 (R614). -/
def DecRule (v : Byte) (f : Flags) (r : Byte) (f' : Flags) : Prop :=
  r.toNat = (v.toNat + 255) % 256 ∧ ResultFlags r f' ∧ f'.cy = f.cy ∧ (f'.ac = true ↔ v.toNat % 16 ≠ 0)

/-- DAA (R619). -/
def DaaRule (a : Byte) (f : Flags) (r : Byte) (f' : Flags) : Prop :=
  let low : Nat := if 9 < a.toNat % 16 ∨ f.ac = true then 6 else 0
  let high : Prop := 9 < (a.toNat + low) / 16 ∨ f.cy = true
  (high → r.toNat = (a.toNat + low + 96) % 256) ∧ (¬ high → r.toNat = (a.toNat + low) % 256) ∧
  ResultFlags r f' ∧ (f'.cy = true ↔ high) ∧ (f'.ac = true ↔ 16 ≤ a.toNat % 16 + low)

/-- What a condition code tests (R305, R411). -/
def CondTrue (f : Flags) : Cond → Prop
  | .nz => f.z = false
  | .z  => f.z = true
  | .nc => f.cy = false
  | .c  => f.cy = true
  | .po => f.p = false
  | .pe => f.p = true
  | .p  => f.s = false
  | .m  => f.s = true

/-- Only CY of the flags may have changed. -/
abbrev OtherFlagsKept (f f' : Flags) : Prop := f'.z = f.z ∧ f'.s = f.s ∧ f'.p = f.p ∧ f'.ac = f.ac

/-- The packed-BCD byte of a number below 100 (R621). -/
def bcd (n : Nat) : Byte := BitVec.ofNat 8 (n / 10 * 16 + n % 10)

/-- The number of an RST (R930). -/
def rstNumber : RstNum → Nat
  | .n0 => 0 | .n1 => 1 | .n2 => 2 | .n3 => 3 | .n4 => 4 | .n5 => 5 | .n6 => 6 | .n7 => 7

/-- Run one instruction `n` times. -/
def execTimes (i : Instr) : Nat → State → Result
  | 0, s => .next s
  | n + 1, s =>
    match exec i s with
    | .next t => execTimes i n t
    | .fault r => .fault r
    | .refused r => .refused r

/-- Change the next state of an answer, if there is one. -/
def mapNext (f : State → State) : Result → Result
  | .next t => .next (f t)
  | .fault r => .fault r
  | .refused r => .refused r

/-- A state with the auxiliary carry set aside. -/
def withoutAc (s : State) : State := { s with flags := { s.flags with ac := false } }

/-- A state with the cycle counter and the cost table set aside. -/
def withoutCosts (s : State) : State := { s with cyc := 0, cfg := { s.cfg with cycleCost := [] } }

end Sys2Proof.Machine
end

