-- ==== Sys2Proof/Certificates/Slice0/Obligations.lean ====
section
/-! DEFINITION. The statements for the provers, one `def Obligations.<Name> : Prop` each. They are about every state
and every configuration unless a premise says otherwise. -/

open Sys2Proof Sys2Proof.Machine

/-! ## Construction, the step and the host's operations -/

/-- R1300: the state at construction, for every configuration, launch register file and set of images that lie inside
the buffer and do not overlap (R1301). -/
def Obligations.ConstructionGivesTheStatedResetState : Prop :=
  ∀ (cfg : Config) (r : ResetRegs) (images : List Image) (s : State), imagesWf cfg.memSize images →
    s = State.construct cfg r images →
      (s.a = r.a ∧ s.b = r.b ∧ s.c = r.c ∧ s.d = r.d ∧ s.e = r.e ∧ s.h = r.h ∧ s.l = r.l ∧ s.sp = r.sp ∧
        s.flags = r.flags) ∧
      (s.pc = 0x0000 ∧ s.ie = false ∧ s.ivec = none ∧ s.status = .running ∧ s.cyc = 0 ∧ s.cfg = cfg) ∧
      (∀ i ∈ images, ∀ k, ∀ h : k < i.bytes.length, s.readByte (i.offset + k) = i.bytes[k]) ∧
      (∀ x, (∀ i ∈ images, ¬ (i.offset ≤ x ∧ x < i.stop)) → s.readByte x = 0)

/-- The reset state (its registers and configuration are the model's choice, log entries 1 and 2) meets the invariant. -/
def Obligations.ResetMeetsTheInvariant : Prop := State.reset.Inv

/-- Every operation of the host that answers a next state keeps the invariant, and never changes the configuration
(R5, R106, R115, R117, R200). -/
def Obligations.StepKeepsTheInvariant : Prop :=
  ∀ s t : State, s.Inv → step s = .next t → t.Inv ∧ t.cfg = s.cfg

/-- R401 to R405: a step of a running core whose bytes at PC decode to `i` is `exec i` with PC past the bytes, then
the opcode's cost, the stack guard and the PC guard; the machine's step is that step when no other host call is
listed. -/
def Obligations.StepRunsTheDecodedInstruction : Prop :=
  ∀ (s : State) (bs : List Byte) (i : Instr) (answer : Result), s.status = .running →
    decode bs = .ok (i, []) → s.BytesAtPc bs s.pc →
    answer =
      (match exec i { s with pc := s.pc + BitVec.ofNat 16 bs.length } with
      | .next t => .next
          { t with cyc := t.cyc + s.cfg.cycleCost.getD (bs.headD 0).toNat 0
                   sp := if t.sp.toNat < t.cfg.romBoundary ∨ t.cfg.memSize < t.sp.toNat then 0 else t.sp
                   pc := if t.cfg.memSize < t.pc.toNat then 0 else t.pc }
      | .fault r => .fault r
      | .refused r => .refused r) →
    stepInstr s = answer ∧ (s.hostCalls = [] → step s = answer)

/-- R1215, R1308 (the list of host calls is the model's, log entry 6): a step performs the first listed host call, and
`step()` when none is listed. -/
def Obligations.StepPerformsTheHostsNextCall : Prop :=
  ∀ (s : State) (n : Nat) (cs : List HostCall),
    (s.hostCalls = [] → step s = stepInstr s) ∧
    (s.hostCalls = .step :: cs → step s = stepInstr { s with hostCalls := cs }) ∧
    (s.hostCalls = .setVector n :: cs → step s = setVector n { s with hostCalls := cs }) ∧
    (s.hostCalls = .generateInterrupt :: cs → step s = generateInterrupt { s with hostCalls := cs })

/-- R201, R209, R404: a fetch, of the opcode or of an operand byte, outside the buffer faults with its address. -/
def Obligations.FetchOutsideTheBufferFaults : Prop :=
  ∀ s : State, s.hostCalls = [] → s.status = .running →
    (s.cfg.memSize ≤ s.pc.toNat → step s = .fault (.memoryOutOfRange s.pc.toNat)) ∧
    (s.pc.toNat < s.cfg.memSize → 2 ≤ opLength (s.readByte s.pc.toNat) → s.cfg.memSize ≤ (s.pc + 1).toNat →
      step s = .fault (.memoryOutOfRange (s.pc + 1).toNat)) ∧
    (s.pc.toNat < s.cfg.memSize → opLength (s.readByte s.pc.toNat) = 3 → (s.pc + 1).toNat < s.cfg.memSize →
      s.cfg.memSize ≤ (s.pc + 2).toNat → step s = .fault (.memoryOutOfRange (s.pc + 2).toNat))

/-- R400, R1205, R1209, R1216 (set_vector as log entry 10 reads R1216): a core that is not running admits no operation
of the host. -/
def Obligations.NothingIsAdmittedUnlessRunning : Prop :=
  ∀ (s : State) (c : HostCall), s.status ≠ .running → hostCall c s = .refused .notRunning

/-- R1205: a fault sets STATUS to `Faulted` with its reason, and no operation is admitted after it (log
entry 4). -/
def Obligations.FaultsAreTerminal : Prop :=
  ∀ (s : State) (r : Fault), step s = .fault r →
    (afterOperation s (step s)).status = .faulted r ∧
    ∀ c, hostCall c (afterOperation s (step s)) = .refused .notRunning

/-- R402: a completed step adds exactly `CYCLE_COST` of the opcode byte at PC, whatever the instruction does. -/
def Obligations.CompletedStepAddsTheOpcodesCost : Prop :=
  ∀ s t : State, stepInstr s = .next t →
    t.cyc = s.cyc + s.cfg.cycleCost.getD (s.readByte s.pc.toNat).toNat 0

/-- R106, R403, R404: at the end of every completed step, SP = 0 or ROM_BOUNDARY <= SP <= MEM_SIZE, and
PC <= MEM_SIZE. -/
def Obligations.GuardsBoundSpAndPcAfterEveryStep : Prop :=
  ∀ s t : State, stepInstr s = .next t →
    (t.sp = 0 ∨ (t.cfg.romBoundary ≤ t.sp.toNat ∧ t.sp.toNat ≤ t.cfg.memSize)) ∧ t.pc.toNat ≤ t.cfg.memSize

/-- R1208: `set_vector(n)` sets IVEC to n for n in 1 to 7 and is refused otherwise. -/
def Obligations.SetVectorAdmitsOneToSeven : Prop :=
  ∀ (s : State) (n : Nat), s.status = .running →
    (1 ≤ n ∧ n ≤ 7 → ∃ v, vectorNumber v = n ∧ setVector n s = .next { s with ivec := some v }) ∧
    (¬ (1 ≤ n ∧ n ≤ 7) → setVector n s = .refused (.vectorOutOfRange n))

/-- R1209, R1210: `generate_interrupt`: refused unless the core is running; a no-op while IE is false; refused with IE
true and no vector; else it pushes PC, goes to `8 * IVEC`, adds 11 to CYC and clears IE, with no guard after it and
nothing else changed, and a push outside the buffer faults with the remapped address, high byte first (R202, R800, R1202;
log entry 11). -/
def Obligations.GenerateInterruptEntersTheVector : Prop :=
  ∀ s : State, (s.status ≠ .running → generateInterrupt s = .refused .notRunning) ∧
    (s.status = .running → Memory.wf s.mem →
    (s.ie = false → generateInterrupt s = .next s) ∧
    (s.ie = true → s.ivec = none → generateInterrupt s = .refused .vectorUnset) ∧
    (∀ v, s.ie = true → s.ivec = some v → s.Pushable →
      ∃ t, generateInterrupt s = .next t ∧ t.pc.toNat = 8 * vectorNumber v ∧ t.sp = s.sp - 2 ∧
        (∀ x, t.readByte x = s.afterPush s.pc x) ∧ t.cyc = s.cyc + 11 ∧ t.ie = false ∧ t.flags = s.flags ∧
        (∀ r, t.reg r = s.reg r) ∧ t.status = .running ∧ t.ivec = s.ivec ∧ t.cfg = s.cfg ∧
        t.portAnswers = s.portAnswers ∧ t.inCount = s.inCount ∧ t.outTrace = s.outTrace ∧
        t.hostCalls = s.hostCalls) ∧
    (∀ v, s.ie = true → s.ivec = some v → ¬ s.Writable ((s.sp - 2).toNat + 1) →
      generateInterrupt s = .fault (.memoryOutOfRange (s.remap ((s.sp - 2).toNat + 1)))) ∧
    (∀ v, s.ie = true → s.ivec = some v → s.Writable ((s.sp - 2).toNat + 1) → ¬ s.Writable (s.sp - 2).toNat →
      generateInterrupt s = .fault (.memoryOutOfRange (s.remap (s.sp - 2).toNat))))

/-- R1213: with the two stack bytes in RAM, outside the mirror range, RET at the handler gives back the interrupted PC
and SP, and IE stays false. -/
def Obligations.RetResumesAfterAnInterrupt : Prop :=
  ∀ (s : State) (v : IntVector), s.status = .running → s.ie = true → s.ivec = some v → s.cfg.wf → Memory.wf s.mem →
    s.cfg.romBoundary + 2 < s.sp.toNat → s.sp.toNat ≤ s.cfg.memSize →
    ¬ s.Mirrored (s.sp.toNat - 2) → ¬ s.Mirrored (s.sp.toNat - 1) →
    ∃ t u, generateInterrupt s = .next t ∧ exec .ret t = .next u ∧ u.pc = s.pc ∧ u.sp = s.sp ∧ u.ie = false ∧
      u.flags = s.flags ∧ ∀ r, u.reg r = s.reg r

/-! ## Encoding -/

/-- R307, R311: decoding the encoding of any instruction, with any operand and any bytes after it, gives the
instruction and those bytes. -/
def Obligations.DecodeOfEncodeIsTheInstruction : Prop :=
  ∀ (i : Instr) (rest : List Byte), decode (encode i ++ rest) = .ok (i, rest)

/-- R307, R311: the bytes a decoded instruction was read from are its encoding. -/
def Obligations.EncodeOfDecodeIsTheBytes : Prop :=
  ∀ (bs rest : List Byte) (i : Instr), decode bs = .ok (i, rest) → bs = encode i ++ rest

/-- R307: a few words written out from the encoding lines of the spec. -/
def Obligations.SampleWordsDecode : Prop :=
  decode [0b01111000] = .ok (.movAB, []) ∧ decode [0b00100001, 0x34, 0x12] = .ok (.lxiH 0x1234, []) ∧
  decode [0b11000110, 0x2E] = .ok (.adi 0x2E, []) ∧ decode [0b10011110] = .ok (.sbbM, []) ∧
  decode [0b00011111] = .ok (.rar, []) ∧ decode [0b11110101] = .ok (.pushPSW, []) ∧
  decode [0b11011010, 0x00, 0x30] = .ok (.jc 0x3000, []) ∧ decode [0b11101111] = .ok (.rst5, []) ∧
  decode [0b11010011, 0x03] = .ok (.out 0x03, []) ∧ decode [0b01110110] = .ok (.hlt, []) ∧
  decode [0b11001011] = .ok (.unimplCB, [])

/-- R1104, R1201, R308: each opcode without a handler stops the machine with `UnimplementedOpcode`, its opcode and its
own address (log entry 9). -/
def Obligations.OpcodesWithoutAHandlerFault : Prop :=
  ∀ (o : BadOpcode) (s : State),
    exec (.unimpl o) s = .fault (.unimplementedOpcode o.byte (s.pc - 1)) ∧
    (s.status = .running → s.pc.toNat < s.cfg.memSize → s.readByte s.pc.toNat = o.byte →
      stepInstr s = .fault (.unimplementedOpcode o.byte s.pc))

/-! ## Memory primitives -/

/-- R202 to R204: a write is remapped once, then discarded at or below ROM_BOUNDARY, else faults at or above MEM_SIZE,
else stores its byte and nothing else. The fault carries the remapped address (log entry 11). -/
def Obligations.WritesAreRemappedGuardedOrStored : Prop :=
  ∀ (s : State) (a a' : Nat) (v : Byte), Memory.wf s.mem →
    a' = (if s.cfg.mirrorLo ≤ a ∧ a ≤ s.cfg.mirrorHi then a - s.cfg.mirrorOffset else a) →
    (a' ≤ s.cfg.romBoundary → s.write8 a v = .ok s) ∧
    (s.cfg.romBoundary < a' → s.cfg.memSize ≤ a' → s.write8 a v = .error (.memoryOutOfRange a')) ∧
    (s.cfg.romBoundary < a' → a' < s.cfg.memSize →
      ∃ t, s.write8 a v = .ok t ∧ Memory.wf t.mem ∧ t = { s with mem := t.mem } ∧
        ∀ x, t.readByte x = if x = a' then v else s.readByte x)

/-- R206: the resolver zeroes a pair that points past the buffer and answers 0; otherwise it answers the pair's value
and changes nothing. With MEM_SIZE = 65536 it never fires. -/
def Obligations.ResolverZeroesAPairPastTheBuffer : Prop :=
  ∀ (s : State) (p : Pair),
    (s.cfg.memSize ≤ (s.pair p).toNat →
      (s.resolvePair p).1 = 0 ∧ (∀ r ∈ pairRegs p, (s.resolvePair p).2.reg r = 0) ∧
      RegistersOnly (pairRegs p) s (s.resolvePair p).2) ∧
    ((s.pair p).toNat < s.cfg.memSize → s.resolvePair p = ((s.pair p).toNat, s)) ∧
    (s.cfg.memSize = 65536 → s.resolvePair p = ((s.pair p).toNat, s))

/-- R203, R214: no operation of the core, interrupts included, changes a byte at or below ROM_BOUNDARY. -/
def Obligations.ProtectedRegionNeverChanges : Prop :=
  ∀ (s t : State) (x : Nat), step s = .next t → x ≤ s.cfg.romBoundary → t.readByte x = s.readByte x

/-! ## Data transfer -/

/-- R500, R503: MOV between registers and MVI to a register write the destination register only. -/
def Obligations.RegisterMovesWriteTheDestinationOnly : Prop :=
  ∀ (dst src : Reg) (v : Byte) (s : State),
    (∃ t, exec (.movRR dst src) s = .next t ∧ t.reg dst = s.reg src ∧ RegistersOnly [dst] s t) ∧
    (∃ t, exec (.mviR dst v) s = .next t ∧ t.reg dst = v ∧ RegistersOnly [dst] s t)

/-- R505, R616, R617: LXI, INX and DCX write one pair or SP, mod 2^16, and no flag. -/
def Obligations.PairLoadIncrementAndDecrement : Prop :=
  ∀ (p : Rp) (w : Word) (s : State),
    (∃ t, exec (.lxi p w) s = .next t ∧ t.rp p = w ∧ Keeps (rpRegs p) s t ∧ (p ≠ .sp → t.sp = s.sp) ∧
      t.flags = s.flags ∧ t.pc = s.pc ∧ SameMemory s t) ∧
    (∃ t, exec (.inx p) s = .next t ∧ (t.rp p).toNat = ((s.rp p).toNat + 1) % 65536 ∧ Keeps (rpRegs p) s t ∧
      (p ≠ .sp → t.sp = s.sp) ∧ t.flags = s.flags ∧ t.pc = s.pc ∧ SameMemory s t) ∧
    (∃ t, exec (.dcx p) s = .next t ∧ (t.rp p).toNat = ((s.rp p).toNat + 65535) % 65536 ∧ Keeps (rpRegs p) s t ∧
      (p ≠ .sp → t.sp = s.sp) ∧ t.flags = s.flags ∧ t.pc = s.pc ∧ SameMemory s t)

/-- R501, R510: MOV r,M and LDAX read the byte at the resolved address, after the resolver. -/
def Obligations.IndirectLoadsReadAtTheResolvedAddress : Prop :=
  ∀ s : State, 0 < s.cfg.memSize →
    (∀ dst : Reg, ∃ t, exec (.movRM dst) s = .next t ∧ t.reg dst = s.readByte (s.resolvePair .hl).1 ∧
      RegistersOnly [dst] (s.resolvePair .hl).2 t) ∧
    (∃ t, exec (.ldax .bc) s = .next t ∧ t.a = s.readByte (s.resolvePair .bc).1 ∧
      RegistersOnly [.a] (s.resolvePair .bc).2 t) ∧
    (∃ t, exec (.ldax .de) s = .next t ∧ t.a = s.readByte (s.resolvePair .de).1 ∧
      RegistersOnly [.a] (s.resolvePair .de).2 t)

/-- R502, R504, R511: MOV M,r, MVI M and STAX store at the resolved address, a register being read after the
resolver. The address is backed or 0, and the remap only lowers it, so they raise no fault. -/
def Obligations.IndirectStoresWriteAtTheResolvedAddress : Prop :=
  ∀ (s : State) (i : Instr) (p : Pair) (v : Byte), Memory.wf s.mem →
    ((∃ r, i = .movMR r ∧ p = .hl ∧ v = (s.resolvePair .hl).2.reg r) ∨ (i = .mviM v ∧ p = .hl) ∨
      (i = .stax .bc ∧ p = .bc ∧ v = s.a) ∨ (i = .stax .de ∧ p = .de ∧ v = s.a)) →
    ∃ t, exec i s = .next t ∧ Keeps [] (s.resolvePair p).2 t ∧ t.flags = s.flags ∧ t.sp = s.sp ∧ t.pc = s.pc ∧
      ∀ x, t.readByte x = s.afterWrite (s.resolvePair p).1 v s.readByte x

/-- R506, R508: LDA and LHLD read at the direct address, low byte first, and fault at the first byte outside the
buffer. -/
def Obligations.DirectLoadsReadLittleEndian : Prop :=
  ∀ (w : Word) (s : State),
    (w.toNat < s.cfg.memSize →
      ∃ t, exec (.lda w) s = .next t ∧ t.a = s.readByte w.toNat ∧ RegistersOnly [.a] s t) ∧
    (w.toNat + 1 < s.cfg.memSize →
      ∃ t, exec (.lhld w) s = .next t ∧ t.l = s.readByte w.toNat ∧ t.h = s.readByte (w.toNat + 1) ∧
        RegistersOnly [.h, .l] s t) ∧
    (s.cfg.memSize ≤ w.toNat → exec (.lda w) s = .fault (.memoryOutOfRange w.toNat) ∧
      exec (.lhld w) s = .fault (.memoryOutOfRange w.toNat)) ∧
    (w.toNat + 1 = s.cfg.memSize → exec (.lhld w) s = .fault (.memoryOutOfRange (w.toNat + 1)))

/-- R507, R509: STA stores A, and SHLD stores L then H, at the direct address and the next; each byte is guarded or
faults by itself, with the remapped address (log entry 11). -/
def Obligations.DirectStoresWriteLittleEndian : Prop :=
  ∀ (w : Word) (s : State), Memory.wf s.mem →
    (s.Writable w.toNat → ∃ t, exec (.sta w) s = .next t ∧ Keeps [] s t ∧ t.flags = s.flags ∧ t.sp = s.sp ∧
      t.pc = s.pc ∧ ∀ x, t.readByte x = s.afterWrite w.toNat s.a s.readByte x) ∧
    (s.Writable w.toNat → s.Writable (w.toNat + 1) →
      ∃ t, exec (.shld w) s = .next t ∧ Keeps [] s t ∧ t.flags = s.flags ∧ t.sp = s.sp ∧ t.pc = s.pc ∧
        ∀ x, t.readByte x = s.afterWrite (w.toNat + 1) s.h (s.afterWrite w.toNat s.l s.readByte) x) ∧
    (¬ s.Writable w.toNat → exec (.sta w) s = .fault (.memoryOutOfRange (s.remap w.toNat)) ∧
      exec (.shld w) s = .fault (.memoryOutOfRange (s.remap w.toNat))) ∧
    (s.Writable w.toNat → ¬ s.Writable (w.toNat + 1) →
      exec (.shld w) s = .fault (.memoryOutOfRange (s.remap (w.toNat + 1))))

/-- R512, R809, R716: XCHG exchanges HL and DE, SPHL copies HL to SP, and CMA complements A; none writes a flag. -/
def Obligations.ExchangeAndComplement : Prop :=
  ∀ s : State,
    (∃ t, exec .xchg s = .next t ∧ t.h = s.d ∧ t.l = s.e ∧ t.d = s.h ∧ t.e = s.l ∧
      RegistersOnly [.d, .e, .h, .l] s t) ∧
    (∃ t, exec .sphl s = .next t ∧ t.sp.toNat = s.h.toNat * 256 + s.l.toNat ∧ Keeps [] s t ∧ t.flags = s.flags ∧
      t.pc = s.pc ∧ SameMemory s t) ∧
    (∃ t, exec .cma s = .next t ∧ t.a.toNat = 255 - s.a.toNat ∧ RegistersOnly [.a] s t)

/-! ## Arithmetic and logic -/

/-- R600 to R610, R700 to R710, register forms: the new A and flags, and nothing else. -/
def Obligations.AluRegisterFormsFollowTheirRules : Prop :=
  ∀ (o : AluOp) (r : Reg) (s : State),
    ∃ t, exec (.alu o (.reg r)) s = .next t ∧ AluRule o s.a (s.reg r) s.flags t.a t.flags ∧
      RegistersAndFlagsOnly [.a] s t

/-- R601 to R610, R701 to R710, memory forms: the operand is the byte at the resolved address, after the resolver. -/
def Obligations.AluMemoryFormsFollowTheirRules : Prop :=
  ∀ (o : AluOp) (s : State), 0 < s.cfg.memSize →
    ∃ t, exec (.alu o .m) s = .next t ∧
      AluRule o s.a (s.readByte (s.resolvePair .hl).1) s.flags t.a t.flags ∧
      RegistersAndFlagsOnly [.a] (s.resolvePair .hl).2 t

/-- R602 to R611, R702 to R711, immediate forms. -/
def Obligations.AluImmediateFormsFollowTheirRules : Prop :=
  ∀ (o : AluOp) (v : Byte) (s : State),
    ∃ t, exec (.aluI o v) s = .next t ∧ AluRule o s.a v s.flags t.a t.flags ∧ RegistersAndFlagsOnly [.a] s t

/-- R622: the adder and the subtractor agree on results. -/
def Obligations.AdderAndSubtractorAgreeOnResults : Prop :=
  ∀ (a b : Byte) (c : Bool) (f : Flags),
    (sub8 a b c f).1.toNat = (a.toNat + 256 - b.toNat - c.toNat) % 256 ∧
    (add8 a b c f).1.toNat = (a.toNat + b.toNat + c.toNat) % 256

/-- R720: compare never writes A, and leaves the flags the matching subtraction leaves, in all three forms. -/
def Obligations.CompareSetsTheFlagsOfSubtract : Prop :=
  ∀ (s : State) (i j : Instr),
    ((∃ x, i = .alu .cmp x ∧ j = .alu .sub x) ∨ (∃ v, i = .aluI .cmp v ∧ j = .aluI .sub v)) → 0 < s.cfg.memSize →
    ∃ t u, exec i s = .next t ∧ exec j s = .next u ∧ t.a = s.a ∧ t.flags = u.flags

/-- R612, R614: INR and DCR of a register, with CY restored. -/
def Obligations.RegisterIncrementAndDecrementKeepCarry : Prop :=
  ∀ (r : Reg) (s : State),
    (∃ t, exec (.inrR r) s = .next t ∧ IncRule (s.reg r) s.flags (t.reg r) t.flags ∧
      RegistersAndFlagsOnly [r] s t) ∧
    (∃ t, exec (.dcrR r) s = .next t ∧ DecRule (s.reg r) s.flags (t.reg r) t.flags ∧
      RegistersAndFlagsOnly [r] s t)

/-- R613, R615: INR M and DCR M read at the resolved address, write the flags of the byte read, and store the result
there through the write guard and the mirror. -/
def Obligations.MemoryIncrementAndDecrementStoreTheResult : Prop :=
  ∀ s : State, Memory.wf s.mem → 0 < s.cfg.memSize →
    (∃ t r, exec .inrM s = .next t ∧ IncRule (s.readByte (s.resolvePair .hl).1) s.flags r t.flags ∧
      Keeps [] (s.resolvePair .hl).2 t ∧ t.sp = s.sp ∧ t.pc = s.pc ∧
      ∀ x, t.readByte x = s.afterWrite (s.resolvePair .hl).1 r s.readByte x) ∧
    (∃ t r, exec .dcrM s = .next t ∧ DecRule (s.readByte (s.resolvePair .hl).1) s.flags r t.flags ∧
      Keeps [] (s.resolvePair .hl).2 t ∧ t.sp = s.sp ∧ t.pc = s.pc ∧
      ∀ x, t.readByte x = s.afterWrite (s.resolvePair .hl).1 r s.readByte x)

/-- R618: DAD adds a pair or SP to HL mod 2^16; of the flags it writes CY only, the carry out of bit 15. -/
def Obligations.DoubleAddWritesHlAndCarryOnly : Prop :=
  ∀ (p : Rp) (s : State),
    ∃ t, exec (.dad p) s = .next t ∧
      t.h.toNat * 256 + t.l.toNat = (s.h.toNat * 256 + s.l.toNat + (s.rp p).toNat) % 65536 ∧
      (t.flags.cy = true ↔ 65536 ≤ s.h.toNat * 256 + s.l.toNat + (s.rp p).toNat) ∧
      OtherFlagsKept s.flags t.flags ∧ RegistersAndFlagsOnly [.h, .l] s t

/-- R619: DAA on every A, CY and AC. -/
def Obligations.DecimalAdjustCorrectsBothNibbles : Prop :=
  ∀ s : State, ∃ t, exec .daa s = .next t ∧ DaaRule s.a s.flags t.a t.flags ∧ RegistersAndFlagsOnly [.a] s t

/-- R621: adding two packed-BCD bytes (by ADC, or by ADD when the carry is 0; a register, immediate or memory operand)
and then DAA gives the packed-BCD sum mod 100 with CY the decimal carry. -/
def Obligations.DecimalAdditionLaw : Prop :=
  ∀ (s : State) (i : Instr) (x y : Nat) (o : AluOp), x < 100 → y < 100 → s.a = bcd x →
    ((∃ r, i = .alu o (.reg r) ∧ s.reg r = bcd y) ∨ i = .aluI o (bcd y) ∨
      (i = .alu o .m ∧ 0 < s.cfg.memSize ∧ s.readByte (s.resolvePair .hl).1 = bcd y)) →
    (o = .adc ∨ (o = .add ∧ s.flags.cy = false)) →
    ∃ t u, exec i s = .next t ∧ exec .daa t = .next u ∧
      u.a = bcd ((x + y + s.flags.cy.toNat) % 100) ∧ (u.flags.cy = true ↔ 100 ≤ x + y + s.flags.cy.toNat)

/-- R712 to R715: the four rotates; of the flags they write CY only, the bit shifted out. -/
def Obligations.RotatesMoveOneBitAndWriteCarryOnly : Prop :=
  ∀ s : State,
    (∃ t, exec .rlc s = .next t ∧ t.a.toNat = s.a.toNat * 2 % 256 + s.a.toNat / 128 ∧
      (t.flags.cy = true ↔ 128 ≤ s.a.toNat) ∧ OtherFlagsKept s.flags t.flags ∧ RegistersAndFlagsOnly [.a] s t) ∧
    (∃ t, exec .rrc s = .next t ∧ t.a.toNat = s.a.toNat / 2 + s.a.toNat % 2 * 128 ∧
      (t.flags.cy = true ↔ s.a.toNat % 2 = 1) ∧ OtherFlagsKept s.flags t.flags ∧ RegistersAndFlagsOnly [.a] s t) ∧
    (∃ t, exec .ral s = .next t ∧ t.a.toNat = s.a.toNat * 2 % 256 + s.flags.cy.toNat ∧
      (t.flags.cy = true ↔ 128 ≤ s.a.toNat) ∧ OtherFlagsKept s.flags t.flags ∧ RegistersAndFlagsOnly [.a] s t) ∧
    (∃ t, exec .rar s = .next t ∧ t.a.toNat = s.a.toNat / 2 + s.flags.cy.toNat * 128 ∧
      (t.flags.cy = true ↔ s.a.toNat % 2 = 1) ∧ OtherFlagsKept s.flags t.flags ∧ RegistersAndFlagsOnly [.a] s t)

/-- R721: eight RLC or eight RRC give A back; nine RAL or nine RAR give A and CY back. -/
def Obligations.RepeatedRotatesRestoreTheValue : Prop :=
  ∀ s : State,
    (∃ t, execTimes .rlc 8 s = .next t ∧ t.a = s.a) ∧ (∃ t, execTimes .rrc 8 s = .next t ∧ t.a = s.a) ∧
    (∃ t, execTimes .ral 9 s = .next t ∧ t.a = s.a ∧ t.flags = s.flags) ∧
    (∃ t, execTimes .rar 9 s = .next t ∧ t.a = s.a ∧ t.flags = s.flags)

/-- R717, R718: STC sets CY and CMC inverts it; the other flags and everything else are unchanged. -/
def Obligations.CarryInstructionsWriteCarryOnly : Prop :=
  ∀ s : State,
    (∃ t, exec .stc s = .next t ∧ t.flags.cy = true ∧ OtherFlagsKept s.flags t.flags ∧
      RegistersAndFlagsOnly [] s t) ∧
    (∃ t, exec .cmc s = .next t ∧ t.flags.cy = !s.flags.cy ∧ OtherFlagsKept s.flags t.flags ∧
      RegistersAndFlagsOnly [] s t)

/-! ## The stack -/

/-- R804, R805, R800, R802: PUSH stores the pair, or A and the packed flags, high byte first below SP. -/
def Obligations.PushStoresThePairBelowSp : Prop :=
  ∀ s : State, Memory.wf s.mem → s.Pushable →
    (∀ p, ∃ t, exec (.push p) s = .next t ∧ t.sp = s.sp - 2 ∧ Keeps [] s t ∧ t.flags = s.flags ∧ t.pc = s.pc ∧
      ∀ x, t.readByte x = s.afterPush (s.pair p) x) ∧
    (s.cfg.psw.wf → ∃ t f, exec .pushPSW s = .next t ∧ t.sp = s.sp - 2 ∧ Keeps [] s t ∧ t.flags = s.flags ∧
      t.pc = s.pc ∧ (∀ x, t.readByte x = s.afterPush (cat s.a f) x) ∧
      (f.getLsb s.cfg.psw.posS = s.flags.s ∧ f.getLsb s.cfg.psw.posZ = s.flags.z ∧
        f.getLsb s.cfg.psw.posP = s.flags.p ∧ f.getLsb s.cfg.psw.posCY = s.flags.cy) ∧
      ∀ k, k ≠ s.cfg.psw.posS → k ≠ s.cfg.psw.posZ → k ≠ s.cfg.psw.posP → k ≠ s.cfg.psw.posCY →
        f.getLsb k = s.cfg.psw.pad.getLsb k)

/-- R806, R807, R801, R803: POP reads the pair, or A and the four packed flags, at SP; AC is unchanged. -/
def Obligations.PopLoadsThePairAtSp : Prop :=
  ∀ s : State, s.Poppable →
    (∀ p, ∃ t, exec (.pop p) s = .next t ∧ t.sp = s.sp + 2 ∧
      t.pair p = s.top ∧ Keeps (pairRegs p) s t ∧ t.flags = s.flags ∧ t.pc = s.pc ∧ SameMemory s t) ∧
    (∃ t, exec .popPSW s = .next t ∧ t.sp = s.sp + 2 ∧ t.a = s.readByte (s.sp.toNat + 1) ∧
      (t.flags.s = (s.readByte s.sp.toNat).getLsb s.cfg.psw.posS ∧
        t.flags.z = (s.readByte s.sp.toNat).getLsb s.cfg.psw.posZ ∧
        t.flags.p = (s.readByte s.sp.toNat).getLsb s.cfg.psw.posP ∧
        t.flags.cy = (s.readByte s.sp.toNat).getLsb s.cfg.psw.posCY ∧ t.flags.ac = s.flags.ac) ∧
      Keeps [.a] s t ∧ t.pc = s.pc ∧ SameMemory s t)

/-- R810 over whole steps, so with the guards of R403 to R405: PUSH, then the matching POP at the next address. With
both bytes in RAM, outside the mirror range, the pair (or A and all five flags) and SP come back, and the two bytes hold
the pair. With both bytes at or below ROM_BOUNDARY nothing is stored, the stack guard leaves SP at 0 after the PUSH, and
the POP gives what addresses 0 and 1 hold. With the low byte alone at ROM_BOUNDARY, the POP gives the byte that was
there as the low half. -/
def Obligations.PushThenPopRoundTrip : Prop :=
  ∀ s : State, s.cfg.wf → Memory.wf s.mem → s.status = .running →
    (s.cfg.romBoundary + 2 < s.sp.toNat → s.sp.toNat ≤ s.cfg.memSize → ¬ s.Mirrored (s.sp.toNat - 2) →
        ¬ s.Mirrored (s.sp.toNat - 1) →
      (∀ p, s.BytesAtPc (encode (.push p)) s.pc → ∃ t, stepInstr s = .next t ∧ t.sp = s.sp - 2 ∧
        (t.BytesAtPc (encode (.pop p)) t.pc → ∃ u, stepInstr t = .next u ∧ u.pair p = s.pair p ∧ u.sp = s.sp ∧
          u.readByte (s.sp.toNat - 1) = hi8 (s.pair p) ∧ u.readByte (s.sp.toNat - 2) = lo8 (s.pair p))) ∧
      (s.BytesAtPc (encode .pushPSW) s.pc → ∃ t, stepInstr s = .next t ∧ t.sp = s.sp - 2 ∧
        (t.BytesAtPc (encode .popPSW) t.pc → ∃ u, stepInstr t = .next u ∧ u.a = s.a ∧ u.flags = s.flags ∧
          u.sp = s.sp))) ∧
    (2 ≤ s.sp.toNat → s.sp.toNat ≤ s.cfg.romBoundary + 1 →
      (∀ p, s.BytesAtPc (encode (.push p)) s.pc → ∃ t, stepInstr s = .next t ∧ t.sp = 0 ∧ SameMemory s t ∧
        (t.BytesAtPc (encode (.pop p)) t.pc → ∃ u, stepInstr t = .next u ∧
          u.pair p = cat (s.readByte 1) (s.readByte 0) ∧
          u.sp = if 2 < s.cfg.romBoundary then 0 else 2)) ∧
      (s.BytesAtPc (encode .pushPSW) s.pc → ∃ t, stepInstr s = .next t ∧ t.sp = 0 ∧ SameMemory s t ∧
        (t.BytesAtPc (encode .popPSW) t.pc → ∃ u, stepInstr t = .next u ∧ u.a = s.readByte 1 ∧
          u.flags.s = (s.readByte 0).getLsb s.cfg.psw.posS ∧ u.flags.z = (s.readByte 0).getLsb s.cfg.psw.posZ ∧
          u.flags.p = (s.readByte 0).getLsb s.cfg.psw.posP ∧ u.flags.cy = (s.readByte 0).getLsb s.cfg.psw.posCY ∧
          u.flags.ac = s.flags.ac ∧ u.sp = if 2 < s.cfg.romBoundary then 0 else 2))) ∧
    (s.sp.toNat = s.cfg.romBoundary + 2 → s.sp.toNat ≤ s.cfg.memSize → ¬ s.Mirrored (s.sp.toNat - 1) →
      (∀ p, s.BytesAtPc (encode (.push p)) s.pc → ∃ t, stepInstr s = .next t ∧ t.sp = s.sp - 2 ∧
        (t.BytesAtPc (encode (.pop p)) t.pc → ∃ u, stepInstr t = .next u ∧ u.sp = s.sp ∧
          u.pair p = cat (hi8 (s.pair p)) (s.readByte s.cfg.romBoundary))) ∧
      (s.BytesAtPc (encode .pushPSW) s.pc → ∃ t, stepInstr s = .next t ∧ t.sp = s.sp - 2 ∧
        (t.BytesAtPc (encode .popPSW) t.pc → ∃ u, stepInstr t = .next u ∧ u.sp = s.sp ∧ u.a = s.a ∧
          u.flags.s = (s.readByte s.cfg.romBoundary).getLsb s.cfg.psw.posS ∧
          u.flags.z = (s.readByte s.cfg.romBoundary).getLsb s.cfg.psw.posZ ∧
          u.flags.p = (s.readByte s.cfg.romBoundary).getLsb s.cfg.psw.posP ∧
          u.flags.cy = (s.readByte s.cfg.romBoundary).getLsb s.cfg.psw.posCY ∧ u.flags.ac = s.flags.ac)))

/-- R808: XTHL exchanges HL with the two bytes at SP, both reads before both writes; SP is unchanged. An address that
can be read is never faulted by the write, since the remap only lowers it. -/
def Obligations.ExchangeTopOfStackWithHl : Prop :=
  ∀ s : State, Memory.wf s.mem → s.Poppable →
    ∃ t, exec .xthl s = .next t ∧ t.l = s.readByte s.sp.toNat ∧ t.h = s.readByte (s.sp.toNat + 1) ∧
      Keeps [.h, .l] s t ∧ t.flags = s.flags ∧ t.sp = s.sp ∧ t.pc = s.pc ∧
      ∀ x, t.readByte x = s.afterWrite (s.sp.toNat + 1) s.h (s.afterWrite s.sp.toNat s.l s.readByte) x

/-- R1202, R800: every pushing form faults at the first byte whose remapped address is unguarded and unbacked, and the
fault carries that address (log entry 11). -/
def Obligations.PushesOutsideTheBufferFault : Prop :=
  ∀ (s : State) (i : Instr),
    ((∃ p, i = .push p) ∨ i = .pushPSW ∨ (∃ w, i = .call w) ∨ (∃ n, i = .rst n) ∨
      (∃ cc w, i = .ccc cc w ∧ CondTrue s.flags cc)) →
    (¬ s.Writable ((s.sp - 2).toNat + 1) →
      exec i s = .fault (.memoryOutOfRange (s.remap ((s.sp - 2).toNat + 1)))) ∧
    (s.Writable ((s.sp - 2).toNat + 1) → ¬ s.Writable (s.sp - 2).toNat →
      exec i s = .fault (.memoryOutOfRange (s.remap (s.sp - 2).toNat)))

/-- R1202, R801: every popping form, and XTHL, faults at the first byte outside the buffer. -/
def Obligations.PopsOutsideTheBufferFault : Prop :=
  ∀ (s : State) (i : Instr),
    ((∃ p, i = .pop p) ∨ i = .popPSW ∨ i = .ret ∨ i = .xthl ∨ (∃ cc, i = .rcc cc ∧ CondTrue s.flags cc)) →
    (s.cfg.memSize ≤ s.sp.toNat → exec i s = .fault (.memoryOutOfRange s.sp.toNat)) ∧
    (s.sp.toNat + 1 = s.cfg.memSize → exec i s = .fault (.memoryOutOfRange (s.sp.toNat + 1)))

/-! ## Branches -/

/-- R900 to R909, R931, R411: JMP, the taken conditional jumps and PCHL set PC; an untaken jump leaves it; nothing else
changes. -/
def Obligations.JumpsSetPcOnly : Prop :=
  ∀ (s : State) (cc : Cond) (w : Word),
    (∃ t, exec (.jmp w) s = .next t ∧ t.pc = w ∧ Keeps [] s t ∧ t.flags = s.flags ∧ t.sp = s.sp ∧
      SameMemory s t) ∧
    (∃ t, exec (.jcc cc w) s = .next t ∧ (CondTrue s.flags cc → t.pc = w) ∧ (¬ CondTrue s.flags cc → t.pc = s.pc) ∧
      Keeps [] s t ∧ t.flags = s.flags ∧ t.sp = s.sp ∧ SameMemory s t) ∧
    (∃ t, exec .pchl s = .next t ∧ t.pc.toNat = s.h.toNat * 256 + s.l.toNat ∧ Keeps [] s t ∧ t.flags = s.flags ∧
      t.sp = s.sp ∧ SameMemory s t)

/-- R910 to R919, R930: CALL, the taken conditional calls and RST push the address of the next instruction and go to
their target; an untaken call changes nothing. -/
def Obligations.CallsPushTheReturnAddress : Prop :=
  ∀ (s : State) (i : Instr) (target : Nat),
    (((∃ w, i = .call w ∧ target = w.toNat) ∨ (∃ n, i = .rst n ∧ target = 8 * rstNumber n) ∨
        (∃ cc w, i = .ccc cc w ∧ CondTrue s.flags cc ∧ target = w.toNat)) →
      Memory.wf s.mem → s.Pushable →
      ∃ t, exec i s = .next t ∧ t.pc.toNat = target ∧ t.sp = s.sp - 2 ∧ Keeps [] s t ∧ t.flags = s.flags ∧
        ∀ x, t.readByte x = s.afterPush s.pc x) ∧
    ((∃ cc w, i = .ccc cc w ∧ ¬ CondTrue s.flags cc) → exec i s = .next s)

/-- R920 to R929: RET and the taken conditional returns pop PC; an untaken return changes nothing. -/
def Obligations.ReturnsPopPc : Prop :=
  ∀ (s : State) (i : Instr),
    ((i = .ret ∨ ∃ cc, i = .rcc cc ∧ CondTrue s.flags cc) → s.Poppable →
      ∃ t, exec i s = .next t ∧ t.pc = s.top ∧ t.sp = s.sp + 2 ∧ Keeps [] s t ∧ t.flags = s.flags ∧
        SameMemory s t) ∧
    ((∃ cc, i = .rcc cc ∧ ¬ CondTrue s.flags cc) → exec i s = .next s)

/-- R932: the call/return law, over whole steps: a CALL at c with its stack bytes in RAM, then, from any running state
that holds SP and the two stack bytes as the CALL left them and has a RET at its PC, a step to PC = c + 3 and the SP
from before the CALL. -/
def Obligations.CallReturnLaw : Prop :=
  ∀ (s : State) (w : Word), s.cfg.wf → Memory.wf s.mem → s.hostCalls = [] → s.status = .running →
    s.BytesAtPc (encode (.call w)) s.pc →
    s.cfg.romBoundary + 2 < s.sp.toNat → s.sp.toNat ≤ s.cfg.memSize →
    ¬ s.Mirrored (s.sp.toNat - 2) → ¬ s.Mirrored (s.sp.toNat - 1) →
    ∃ t, step s = .next t ∧ (w.toNat ≤ s.cfg.memSize → t.pc = w) ∧
      ∀ u : State, u.cfg = s.cfg → u.hostCalls = [] → u.status = .running → u.sp = t.sp →
        u.readByte t.sp.toNat = t.readByte t.sp.toNat →
        u.readByte (t.sp.toNat + 1) = t.readByte (t.sp.toNat + 1) →
        u.BytesAtPc (encode .ret) u.pc →
        ∃ v, step u = .next v ∧ v.pc = s.pc + 3 ∧ v.sp = s.sp

/-! ## I/O and special instructions -/

/-- R1000, R1002: IN puts the host's answer in A and writes no flag: the next listed answer, or else the free value of
the host's oracle (log entry 5). -/
def Obligations.InputPutsTheHostsAnswerInA : Prop :=
  ∀ (s : State) (p : Byte),
    ∃ t, exec (.inp p) s = .next t ∧
      (∀ v vs, s.portAnswers = v :: vs → t.a = v ∧ t.portAnswers = vs) ∧
      (s.portAnswers = [] → t.a = Config.portInOracle s.inCount p s.outTrace ∧ t.portAnswers = []) ∧
      t.inCount = s.inCount + 1 ∧ (∀ r, r ≠ .a → t.reg r = s.reg r) ∧ t.flags = s.flags ∧ t.sp = s.sp ∧
      t.pc = s.pc ∧ SameMemory s t ∧ t.ie = s.ie ∧ t.ivec = s.ivec ∧ t.status = s.status ∧ t.cyc = s.cyc ∧
      t.cfg = s.cfg ∧ t.outTrace = s.outTrace ∧ t.hostCalls = s.hostCalls

/-- R1001, R1002: OUT appends one event with the port and A, and changes nothing else. -/
def Obligations.OutputAppendsOneEvent : Prop :=
  ∀ (s : State) (p : Byte),
    exec (.out p) s = .next { s with outTrace := s.outTrace ++ [{ port := p, value := s.a }] }

/-- R1100 to R1103: NOP changes nothing, HLT sets STATUS only, EI and DI set IE only. -/
def Obligations.SpecialInstructionsChangeOneThing : Prop :=
  ∀ s : State,
    exec .nop s = .next s ∧ exec .hlt s = .next { s with status := .halted } ∧
    exec .ei s = .next { s with ie := true } ∧ exec .di s = .next { s with ie := false }

/-! ## Rules about every instruction -/

/-- R107: an instruction outside the table of flag writers leaves all five flags unchanged. -/
def Obligations.OnlyTheListedInstructionsWriteFlags : Prop :=
  ∀ (i : Instr) (s t : State),
    (∀ o x, i ≠ .alu o x) → (∀ o v, i ≠ .aluI o v) → (∀ r, i ≠ .inrR r) → (∀ r, i ≠ .dcrR r) → i ≠ .inrM →
    i ≠ .dcrM → i ≠ .daa → i ≠ .rlc → i ≠ .rrc → i ≠ .ral → i ≠ .rar → i ≠ .stc → i ≠ .cmc →
    (∀ p, i ≠ .dad p) → i ≠ .popPSW → exec i s = .next t → t.flags = s.flags

/-- R110 to R113, R117, R1005: HLT alone changes STATUS, EI and DI alone change IE, IN and OUT alone touch the port
record, and no instruction's own effect changes IVEC, CYC, the configuration or the host's calls. -/
def Obligations.ControlStateHasOnlyItsListedWriters : Prop :=
  ∀ (i : Instr) (s t : State), exec i s = .next t →
    t.ivec = s.ivec ∧ t.cyc = s.cyc ∧ t.cfg = s.cfg ∧ t.hostCalls = s.hostCalls ∧
    (i ≠ .hlt → t.status = s.status) ∧ (i ≠ .ei → i ≠ .di → t.ie = s.ie) ∧
    ((∀ p, i ≠ .out p) → t.outTrace = s.outTrace) ∧
    ((∀ p, i ≠ .inp p) → t.portAnswers = s.portAnswers ∧ t.inCount = s.inCount)

/-- R104, R213: only LXI SP, INX SP, DCX SP, SPHL and the pushing and popping forms write SP, and only the storing
forms change memory. -/
def Obligations.OnlyTheListedInstructionsWriteSpOrMemory : Prop :=
  ∀ (i : Instr) (s t : State), exec i s = .next t →
    ((∀ w, i ≠ .lxi .sp w) → i ≠ .inx .sp → i ≠ .dcx .sp → i ≠ .sphl → (∀ p, i ≠ .push p) → (∀ p, i ≠ .pop p) →
      i ≠ .pushPSW → i ≠ .popPSW → (∀ w, i ≠ .call w) → (∀ cc w, i ≠ .ccc cc w) → i ≠ .ret → (∀ cc, i ≠ .rcc cc) →
      (∀ n, i ≠ .rst n) → t.sp = s.sp) ∧
    ((∀ r, i ≠ .movMR r) → (∀ v, i ≠ .mviM v) → (∀ w, i ≠ .sta w) → (∀ w, i ≠ .shld w) → (∀ p, i ≠ .stax p) →
      i ≠ .inrM → i ≠ .dcrM → (∀ p, i ≠ .push p) → i ≠ .pushPSW → i ≠ .xthl → (∀ w, i ≠ .call w) →
      (∀ cc w, i ≠ .ccc cc w) → (∀ n, i ≠ .rst n) → SameMemory s t)

/-- R108: no instruction but DAA reads AC: changing AC beforehand changes nothing afterwards but AC. -/
def Obligations.OnlyDecimalAdjustReadsAc : Prop :=
  ∀ (i : Instr) (s : State) (b : Bool), i ≠ .daa →
    mapNext withoutAc (exec i { s with flags := { s.flags with ac := b } }) = mapNext withoutAc (exec i s)

/-- R110, R111: no instruction reads IE or IVEC. Every instruction but EI and DI has the same outcome whatever the two
hold and carries both along; EI and DI have the same outcome whatever IE and IVEC hold, IE as they set it, and carry IVEC
along. -/
def Obligations.NoInstructionReadsTheInterruptState : Prop :=
  ∀ (i : Instr) (s : State) (b : Bool) (v : Option IntVector),
    (i ≠ .ei → i ≠ .di →
      exec i { s with ie := b, ivec := v } = mapNext (fun t => { t with ie := b, ivec := v }) (exec i s)) ∧
    (i = .ei ∨ i = .di →
      exec i { s with ie := b, ivec := v } = mapNext (fun t => { t with ivec := v }) (exec i s))

/-- R421: a cost affects CYC only: every operation of the host, made with another cost table and another count, has the
same outcome apart from the count and the table. -/
def Obligations.CostsAffectTheCycleCounterOnly : Prop :=
  ∀ (s : State) (c : HostCall) (n : Nat) (table : List Nat),
    mapNext withoutCosts (hostCall c { s with cyc := n, cfg := { s.cfg with cycleCost := table } }) =
      mapNext withoutCosts (hostCall c s)
end

