-- ==== Sys2Proof/Laws/Decode.lean ====
section
/-! SUPPORT. The opcode map is whole: sixteen rows of sixteen entries, so the decoder's defaults are never taken
(spec/30_encoding.md R307, R311). -/

namespace Sys2Proof

/-- R307: the map has its 256 entries. -/
theorem opMap_full : opMap.length = 16 ∧ ∀ row ∈ opMap, row.length = 16 := by decide +kernel

/-- R300: every opcode byte announces a length of 1, 2 or 3. -/
theorem opLength_range (op : Byte) : 1 ≤ opLength op ∧ opLength op ≤ 3 := by
  simp only [opLength]; split <;> decide

end Sys2Proof
end

