-- ==== Sys2Proof/Laws/Memory.lean ====
section
/-! SUPPORT. The laws of memory: read after write, every other address left alone, and the canonical form kept by
every memory operation (spec/20_memory.md R200). -/

namespace Sys2Proof.Machine

/-- An address below every listed one is unlisted. -/
theorem Memory.read_below (m : Memory) (a : Nat) (h : ∀ x ∈ m, a < x.1) : Memory.read m a = Memory.unlisted := by
  induction m with
  | nil => rfl
  | cons x m ih =>
    have hx := h x (by simp)
    have hne : a ≠ x.1 := by omega
    simp only [Memory.read, if_neg hne]
    exact ih (fun y hy => h y (by simp [hy]))

/-- A write leaves every other address alone (no canonical form needed). -/
theorem Memory.read_write_ne (m : Memory) (a b : Nat) (v : Byte) (h : b ≠ a) :
    Memory.read (Memory.write m a v) b = Memory.read m b := by
  induction m with
  | nil => simp only [Memory.write]; split <;> simp [Memory.read, h]
  | cons x m ih =>
    obtain ⟨k, w⟩ := x
    simp only [Memory.write]
    split
    · split <;> simp [Memory.read, h]
    · split
      · subst_vars; split <;> simp [Memory.read, h]
      · simp [Memory.read, ih]

/-- A read after a write to the same address gives the byte written. -/
theorem Memory.read_write_self (m : Memory) (a : Nat) (v : Byte) (hm : Memory.wf m) :
    Memory.read (Memory.write m a v) a = v := by
  induction m with
  | nil => simp only [Memory.write]; split <;> simp_all [Memory.read]
  | cons x m ih =>
    obtain ⟨k, w⟩ := x
    obtain ⟨hs, hz⟩ := hm
    rw [List.pairwise_cons] at hs
    simp only [Memory.write]
    split
    · rename_i hak
      split
      · rename_i hv
        rw [hv]
        refine Memory.read_below _ _ ?_
        intro y hy
        rcases List.mem_cons.mp hy with rfl | hy
        · exact hak
        · have := hs.1 y hy; simp at this; omega
      · simp [Memory.read]
    · split
      · rename_i _ hak
        subst hak
        split
        · rename_i hv
          rw [hv]
          exact Memory.read_below _ _ (fun y hy => hs.1 y hy)
        · simp [Memory.read]
      · rename_i _ hne
        simp only [Memory.read, if_neg hne]
        exact ih ⟨hs.2, fun y hy => hz y (by simp [hy])⟩

/-- Every entry after a write is the one written or one that was there. -/
theorem Memory.mem_write {m : Memory} {a : Nat} {v : Byte} {x : Host.Cell} (h : x ∈ Memory.write m a v) :
    (x = (a, v) ∧ v ≠ Memory.unlisted) ∨ x ∈ m := by
  induction m with
  | nil =>
    simp only [Memory.write] at h
    split at h
    · simp at h
    · rename_i hv; exact .inl ⟨by simpa using h, hv⟩
  | cons y m ih =>
    obtain ⟨k, w⟩ := y
    simp only [Memory.write] at h
    split at h
    · split at h
      · exact .inr h
      · rename_i hv
        rcases List.mem_cons.mp h with rfl | h
        · exact .inl ⟨rfl, hv⟩
        · exact .inr h
    · split at h
      · rename_i _ hk
        subst hk
        split at h
        · exact .inr (List.mem_cons_of_mem _ h)
        · rename_i hv
          rcases List.mem_cons.mp h with rfl | h
          · exact .inl ⟨rfl, hv⟩
          · exact .inr (List.mem_cons_of_mem _ h)
      · rcases List.mem_cons.mp h with rfl | h
        · exact .inr (by simp)
        · rcases ih h with h | h
          · exact .inl h
          · exact .inr (List.mem_cons_of_mem _ h)

/-- A write keeps the canonical form. -/
theorem Memory.wf_write (m : Memory) (a : Nat) (v : Byte) (hm : Memory.wf m) : Memory.wf (Memory.write m a v) := by
  refine ⟨?_, fun x hx => ?_⟩
  · obtain ⟨hs, -⟩ := hm
    induction m with
    | nil => simp only [Memory.write]; split <;> simp
    | cons y m ih =>
      obtain ⟨k, w⟩ := y
      rw [List.pairwise_cons] at hs
      simp only [Memory.write]
      split
      · rename_i hak
        split
        · exact List.pairwise_cons.mpr hs
        · refine List.pairwise_cons.mpr ⟨?_, List.pairwise_cons.mpr hs⟩
          intro z hz
          rcases List.mem_cons.mp hz with rfl | hz
          · exact hak
          · have := hs.1 z hz; simp at this ⊢; omega
      · split
        · rename_i _ hk
          subst hk
          split
          · exact hs.2
          · exact List.pairwise_cons.mpr ⟨fun z hz => hs.1 z hz, hs.2⟩
        · rename_i h1 h2
          refine List.pairwise_cons.mpr ⟨?_, ih hs.2⟩
          intro z hz
          rcases Memory.mem_write hz with ⟨rfl, -⟩ | hz
          · simp; omega
          · exact hs.1 z hz
  · rcases Memory.mem_write hx with ⟨rfl, hv⟩ | hx
    · exact hv
    · exact hm.2 x hx

/-- Loading a run of bytes keeps the canonical form. -/
theorem Memory.wf_load (bs : List Byte) : ∀ (m : Memory) (a : Nat), Memory.wf m → Memory.wf (Memory.load m a bs) := by
  induction bs with
  | nil => intro m a h; exact h
  | cons b bs ih => intro m a h; exact ih _ _ (Memory.wf_write m a b h)

/-- Loading a run of bytes leaves every address outside it alone. -/
theorem Memory.read_load_out (bs : List Byte) : ∀ (m : Memory) (a x : Nat), (x < a ∨ a + bs.length ≤ x) →
    Memory.read (Memory.load m a bs) x = Memory.read m x := by
  induction bs with
  | nil => intro m a x _; rfl
  | cons b bs ih =>
    intro m a x h
    simp only [List.length_cons] at h
    simp only [Memory.load]
    rw [ih _ _ _ (by omega), Memory.read_write_ne _ _ _ _ (by omega)]

/-- Memory with the launch images placed is in canonical form. -/
theorem imageMemory_wf (is : List Image) : Memory.wf (imageMemory is) := by
  induction is with
  | nil => exact ⟨List.Pairwise.nil, by simp [imageMemory]⟩
  | cons i is ih => exact Memory.wf_load _ _ _ ih

end Sys2Proof.Machine
end

