-- ==== Sys2Proof/Laws/State.lean ====
section
/-! SUPPORT. One lemma per field per update of a register, a pair or SP, so that no later proof unfolds one. -/

namespace Sys2Proof.Machine

section SetReg
variable (s : State) (r r' : Reg) (v : Byte)
@[simp] theorem State.setReg_sp : (s.setReg r v).sp = s.sp := by cases r <;> rfl
@[simp] theorem State.setReg_pc : (s.setReg r v).pc = s.pc := by cases r <;> rfl
@[simp] theorem State.setReg_flags : (s.setReg r v).flags = s.flags := by cases r <;> rfl
@[simp] theorem State.setReg_ie : (s.setReg r v).ie = s.ie := by cases r <;> rfl
@[simp] theorem State.setReg_ivec : (s.setReg r v).ivec = s.ivec := by cases r <;> rfl
@[simp] theorem State.setReg_status : (s.setReg r v).status = s.status := by cases r <;> rfl
@[simp] theorem State.setReg_cyc : (s.setReg r v).cyc = s.cyc := by cases r <;> rfl
@[simp] theorem State.setReg_mem : (s.setReg r v).mem = s.mem := by cases r <;> rfl
@[simp] theorem State.setReg_cfg : (s.setReg r v).cfg = s.cfg := by cases r <;> rfl
@[simp] theorem State.setReg_portAnswers : (s.setReg r v).portAnswers = s.portAnswers := by cases r <;> rfl
@[simp] theorem State.setReg_inCount : (s.setReg r v).inCount = s.inCount := by cases r <;> rfl
@[simp] theorem State.setReg_outTrace : (s.setReg r v).outTrace = s.outTrace := by cases r <;> rfl
@[simp] theorem State.setReg_hostCalls : (s.setReg r v).hostCalls = s.hostCalls := by cases r <;> rfl
@[simp] theorem State.setReg_readByte (a : Nat) : (s.setReg r v).readByte a = s.readByte a := by cases r <;> rfl
theorem State.reg_setReg : (s.setReg r v).reg r' = if r' = r then v else s.reg r' := by
  cases r <;> cases r' <;> rfl
@[simp] theorem State.reg_setReg_self : (s.setReg r v).reg r = v := by cases r <;> rfl
end SetReg

section SetPair
variable (s : State) (p : Pair) (w : Word)
@[simp] theorem State.setPair_a : (s.setPair p w).a = s.a := by cases p <;> rfl
@[simp] theorem State.setPair_sp : (s.setPair p w).sp = s.sp := by cases p <;> rfl
@[simp] theorem State.setPair_pc : (s.setPair p w).pc = s.pc := by cases p <;> rfl
@[simp] theorem State.setPair_flags : (s.setPair p w).flags = s.flags := by cases p <;> rfl
@[simp] theorem State.setPair_ie : (s.setPair p w).ie = s.ie := by cases p <;> rfl
@[simp] theorem State.setPair_ivec : (s.setPair p w).ivec = s.ivec := by cases p <;> rfl
@[simp] theorem State.setPair_status : (s.setPair p w).status = s.status := by cases p <;> rfl
@[simp] theorem State.setPair_cyc : (s.setPair p w).cyc = s.cyc := by cases p <;> rfl
@[simp] theorem State.setPair_mem : (s.setPair p w).mem = s.mem := by cases p <;> rfl
@[simp] theorem State.setPair_cfg : (s.setPair p w).cfg = s.cfg := by cases p <;> rfl
@[simp] theorem State.setPair_portAnswers : (s.setPair p w).portAnswers = s.portAnswers := by cases p <;> rfl
@[simp] theorem State.setPair_inCount : (s.setPair p w).inCount = s.inCount := by cases p <;> rfl
@[simp] theorem State.setPair_outTrace : (s.setPair p w).outTrace = s.outTrace := by cases p <;> rfl
@[simp] theorem State.setPair_hostCalls : (s.setPair p w).hostCalls = s.hostCalls := by cases p <;> rfl
@[simp] theorem State.setPair_readByte (a : Nat) : (s.setPair p w).readByte a = s.readByte a := by cases p <;> rfl
end SetPair

section SetRp
variable (s : State) (p : Rp) (w : Word)
@[simp] theorem State.setRp_a : (s.setRp p w).a = s.a := by cases p <;> rfl
@[simp] theorem State.setRp_pc : (s.setRp p w).pc = s.pc := by cases p <;> rfl
@[simp] theorem State.setRp_flags : (s.setRp p w).flags = s.flags := by cases p <;> rfl
@[simp] theorem State.setRp_ie : (s.setRp p w).ie = s.ie := by cases p <;> rfl
@[simp] theorem State.setRp_ivec : (s.setRp p w).ivec = s.ivec := by cases p <;> rfl
@[simp] theorem State.setRp_status : (s.setRp p w).status = s.status := by cases p <;> rfl
@[simp] theorem State.setRp_cyc : (s.setRp p w).cyc = s.cyc := by cases p <;> rfl
@[simp] theorem State.setRp_mem : (s.setRp p w).mem = s.mem := by cases p <;> rfl
@[simp] theorem State.setRp_cfg : (s.setRp p w).cfg = s.cfg := by cases p <;> rfl
@[simp] theorem State.setRp_portAnswers : (s.setRp p w).portAnswers = s.portAnswers := by cases p <;> rfl
@[simp] theorem State.setRp_inCount : (s.setRp p w).inCount = s.inCount := by cases p <;> rfl
@[simp] theorem State.setRp_outTrace : (s.setRp p w).outTrace = s.outTrace := by cases p <;> rfl
@[simp] theorem State.setRp_hostCalls : (s.setRp p w).hostCalls = s.hostCalls := by cases p <;> rfl
theorem State.setRp_sp (h : p ≠ .sp) : (s.setRp p w).sp = s.sp := by cases p <;> first | rfl | exact absurd rfl h
end SetRp

/-! ## The byte-order helpers -/

@[simp] theorem cat_toNat (hi lo : Byte) : (cat hi lo).toNat = hi.toNat * 256 + lo.toNat := by
  have := hi.isLt; have := lo.isLt
  simp only [cat, BitVec.toNat_ofNat]; omega

@[simp] theorem hi8_cat (hi lo : Byte) : hi8 (cat hi lo) = hi := by
  apply BitVec.eq_of_toNat_eq
  have := hi.isLt; have := lo.isLt
  simp only [hi8, cat_toNat, BitVec.toNat_ofNat]; omega

@[simp] theorem lo8_cat (hi lo : Byte) : lo8 (cat hi lo) = lo := by
  apply BitVec.eq_of_toNat_eq
  have := hi.isLt; have := lo.isLt
  simp only [lo8, cat_toNat, BitVec.toNat_ofNat]; omega

@[simp] theorem cat_hi8_lo8 (w : Word) : cat (hi8 w) (lo8 w) = w := by
  apply BitVec.eq_of_toNat_eq
  have := w.isLt
  simp only [cat_toNat, hi8, lo8, BitVec.toNat_ofNat]; omega

@[simp] theorem State.pair_setPair (s : State) (p : Pair) (w : Word) : (s.setPair p w).pair p = w := by
  cases p <;> simp [State.setPair, State.pair]

@[simp] theorem State.rp_setRp (s : State) (p : Rp) (w : Word) : (s.setRp p w).rp p = w := by
  cases p <;> simp [State.setRp, State.rp]

/-- A byte is split by `cat` in one way only. -/
theorem cat_inj {a b c d : Byte} (h : cat a b = cat c d) : a = c ∧ b = d :=
  ⟨by rw [← hi8_cat a b, h, hi8_cat], by rw [← lo8_cat a b, h, lo8_cat]⟩

end Sys2Proof.Machine
end

