-- ==== Sys2Proof/Laws/Ops.lean ====
section
/-! SUPPORT. One lemma for each shared operation that says once what it can do: the write, the resolver, the push, the
pop and the two reads of a pair of bytes. -/

namespace Sys2Proof.Machine

/-- What any number of writes of the core can do: change memory only, keep its canonical form and its bounds, and never
a byte at or below ROM_BOUNDARY (R202, R203). -/
structure MemStep (s t : State) : Prop where
  eq : t = { s with mem := t.mem }
  wf : Memory.wf s.mem → Memory.wf t.mem
  backed : (∀ x ∈ s.mem, x.1 < s.cfg.memSize) → ∀ x ∈ t.mem, x.1 < s.cfg.memSize
  rom : ∀ x, x ≤ s.cfg.romBoundary → t.readByte x = s.readByte x

theorem MemStep.refl (s : State) : MemStep s s := ⟨rfl, id, id, fun _ _ => rfl⟩

theorem MemStep.cfg_eq {s t : State} (h : MemStep s t) : t.cfg = s.cfg := by rw [h.eq]

theorem MemStep.trans {s t u : State} (h : MemStep s t) (h' : MemStep t u) : MemStep s u where
  eq := by rw [h'.eq, h.eq]
  wf := h'.wf ∘ h.wf
  backed hb := by have := h'.backed; rw [h.cfg_eq] at this; exact this (h.backed hb)
  rom x hx := by rw [h'.rom x (by rw [h.cfg_eq]; exact hx), h.rom x hx]

/-- The mirror remap only lowers an address (R204). -/
theorem State.remap_le (s : State) (a : Nat) : s.remap a ≤ a := by
  simp only [State.remap]; split <;> omega

/-- The remap of an address outside the mirror range is the address. -/
theorem State.remap_of_not_mirrored {s : State} {a : Nat} (h : ¬ s.Mirrored a) : s.remap a = a := if_neg h

theorem State.remap_congr {s t : State} (h : t.cfg = s.cfg) (a : Nat) : t.remap a = s.remap a := by
  simp [State.remap, h]

/-- A guarded write changes nothing (R203). -/
theorem State.write8_guarded {s : State} {a : Nat} (v : Byte) (h : s.remap a ≤ s.cfg.romBoundary) :
    s.write8 a v = .ok s := if_pos h

/-- An unguarded write outside the buffer faults (R202). -/
theorem State.write8_fault {s : State} {a : Nat} (v : Byte) (h : ¬ s.Writable a) :
    s.write8 a v = .error (.memoryOutOfRange (s.remap a)) := by
  have h1 : ¬ s.remap a ≤ s.cfg.romBoundary := fun h' => h (.inl h')
  have h2 : s.cfg.memSize ≤ s.remap a := Nat.le_of_not_lt fun h' => h (.inr h')
  simp [State.write8, h1, h2]

/-- A write that completes is a `MemStep`. -/
theorem State.write8_ok {s t : State} {a : Nat} {v : Byte} (h : s.write8 a v = .ok t) : MemStep s t := by
  simp only [State.write8] at h
  split at h
  · cases h; exact MemStep.refl s
  · split at h
    · cases h
    · cases h
      refine ⟨rfl, fun hw => Memory.wf_write _ _ _ hw, fun hb x hx => ?_, fun x hx => ?_⟩
      · rcases Memory.mem_write hx with ⟨rfl, -⟩ | hx
        · simp; omega
        · exact hb x hx
      · exact Memory.read_write_ne _ _ _ _ (by omega)

/-- A write that may land completes, with the memory `afterWrite` says. -/
theorem State.write8_writable {s : State} {a : Nat} (v : Byte) (h : s.Writable a) :
    ∃ t, s.write8 a v = .ok t ∧ MemStep s t ∧
      (Memory.wf s.mem → ∀ x, t.readByte x = s.afterWrite a v s.readByte x) := by
  by_cases h1 : s.remap a ≤ s.cfg.romBoundary
  · refine ⟨s, State.write8_guarded v h1, MemStep.refl s, fun _ x => ?_⟩
    simp only [State.afterWrite]; rw [if_neg]; omega
  · have h2 : ¬ s.cfg.memSize ≤ s.remap a := by rcases h with h | h <;> omega
    have he : s.write8 a v = .ok { s with mem := Memory.write s.mem (s.remap a) v } := by
      simp [State.write8, h1, h2]
    refine ⟨_, he, State.write8_ok he, fun hw x => ?_⟩
    simp only [State.afterWrite]
    split
    · rename_i hx; rw [hx.2]; exact Memory.read_write_self _ _ _ hw
    · rename_i hx; exact Memory.read_write_ne _ _ _ _ (fun h => hx ⟨by omega, h⟩)

/-- A read in range answers the byte (R201). -/
theorem State.read8_in {s : State} {a : Nat} (h : a < s.cfg.memSize) : s.read8 a = .ok (s.readByte a) :=
  if_neg (by omega)

/-- A read outside the buffer faults (R201). -/
theorem State.read8_out {s : State} {a : Nat} (h : s.cfg.memSize ≤ a) : s.read8 a = .error (.memoryOutOfRange a) :=
  if_pos h

/-- The resolver's address is in the buffer (R206). -/
theorem State.resolvePair_lt {s : State} (p : Pair) (h : 0 < s.cfg.memSize) :
    (s.resolvePair p).1 < s.cfg.memSize := by
  simp only [State.resolvePair]; split
  · exact h
  · simp only; omega

/-- The resolver's address is always one a write admits: it is 0, or in the buffer. -/
theorem State.resolvePair_writable (s : State) (p : Pair) : s.Writable (s.resolvePair p).1 := by
  have := s.remap_le (s.resolvePair p).1
  by_cases h : 0 < s.cfg.memSize
  · exact .inr (by have := s.resolvePair_lt p h; omega)
  · have h0 : (s.resolvePair p).1 = 0 := by simp only [State.resolvePair]; rw [if_pos (by omega)]
    exact .inl (by omega)

/-- The resolver changes the registers of its pair only. -/
theorem State.resolvePair_snd (s : State) (p : Pair) :
    (s.resolvePair p).2 = s ∨ (s.resolvePair p).2 = s.setPair p 0 := by
  simp only [State.resolvePair]; split <;> simp

section Resolve
variable (s : State) (p : Pair)
@[simp] theorem State.resolvePair_a : (s.resolvePair p).2.a = s.a := by
  rcases s.resolvePair_snd p with h | h <;> simp [h]
@[simp] theorem State.resolvePair_sp : (s.resolvePair p).2.sp = s.sp := by
  rcases s.resolvePair_snd p with h | h <;> simp [h]
@[simp] theorem State.resolvePair_pc : (s.resolvePair p).2.pc = s.pc := by
  rcases s.resolvePair_snd p with h | h <;> simp [h]
@[simp] theorem State.resolvePair_flags : (s.resolvePair p).2.flags = s.flags := by
  rcases s.resolvePair_snd p with h | h <;> simp [h]
@[simp] theorem State.resolvePair_mem : (s.resolvePair p).2.mem = s.mem := by
  rcases s.resolvePair_snd p with h | h <;> simp [h]
@[simp] theorem State.resolvePair_cfg : (s.resolvePair p).2.cfg = s.cfg := by
  rcases s.resolvePair_snd p with h | h <;> simp [h]
@[simp] theorem State.resolvePair_readByte (x : Nat) : (s.resolvePair p).2.readByte x = s.readByte x := by
  simp [State.readByte]
end Resolve

/-- The memory operand is read without a fault (R206, R410). -/
theorem State.readThrough_ok {s : State} (p : Pair) (h : 0 < s.cfg.memSize) :
    s.readThrough p = .ok (s.readByte (s.resolvePair p).1, (s.resolvePair p).2) := by
  have hr : (s.resolvePair p).2.read8 (s.resolvePair p).1 = .ok (s.readByte (s.resolvePair p).1) := by
    rw [State.read8_in (by simpa using s.resolvePair_lt p h)]; simp
  simp only [State.readThrough, hr]; rfl

/-- A push that completes lowers SP by 2 and is otherwise a `MemStep` (R800). -/
theorem State.push16_ok {s t : State} {w : Word} (h : s.push16 w = .ok t) : MemStep { s with sp := s.sp - 2 } t := by
  simp only [State.push16, bind, Except.bind] at h
  split at h
  · cases h
  · rename_i s2 h2
    exact (State.write8_ok h2).trans (State.write8_ok h)

/-- A push whose two bytes may land completes, with the memory `afterPush` says (R800). -/
theorem State.push16_pushable {s : State} (w : Word) (h : s.Pushable) :
    ∃ t, s.push16 w = .ok t ∧ MemStep { s with sp := s.sp - 2 } t ∧
      (Memory.wf s.mem → ∀ x, t.readByte x = s.afterPush w x) := by
  obtain ⟨t1, h1, m1, r1⟩ := State.write8_writable (s := { s with sp := s.sp - 2 }) (hi8 w) h.1
  have hsp : t1.sp = s.sp - 2 := by rw [m1.eq]
  have hcfg : t1.cfg = s.cfg := m1.cfg_eq
  have hr (x : Nat) : t1.remap x = s.remap x := State.remap_congr hcfg x
  have hw : t1.Writable t1.sp.toNat := by
    simp only [State.Writable, hr, hcfg, hsp]; exact h.2
  obtain ⟨t2, h2, m2, r2⟩ := State.write8_writable (lo8 w) hw
  refine ⟨t2, ?_, m1.trans m2, fun hm x => ?_⟩
  · have h1' : (State.write8 { s with sp := s.sp - 2 } ((s.sp - 2).toNat + 1) (hi8 w)) = .ok t1 := h1
    simp only [State.push16, h1', bind, Except.bind, h2]
  · rw [r2 (m1.wf hm) x]
    simp only [State.afterPush, State.afterWrite, hr, hcfg, hsp]
    split
    · rfl
    · exact r1 hm x

/-- A pop whose two bytes are in the buffer answers the top of the stack and raises SP by 2 (R801). -/
theorem State.pop16_poppable {s : State} (h : s.Poppable) :
    s.pop16 = .ok (s.top, { s with sp := s.sp + 2 }) := by
  simp only [State.pop16, State.read8_in (show s.sp.toNat < s.cfg.memSize by omega), State.read8_in h]
  rfl

/-- A pop that completes changes SP only (R801). -/
theorem State.pop16_ok {s t : State} {w : Word} (h : s.pop16 = .ok (w, t)) : t = { s with sp := s.sp + 2 } := by
  simp only [State.pop16, bind, Except.bind] at h
  split at h
  · cases h
  · split at h
    · cases h
    · cases h; rfl

/-- The answer of a meaning is a next state exactly when its operation completed. -/
@[simp] theorem finish_next {r : Except Fault State} {t : State} : finish r = .next t ↔ r = .ok t := by
  cases r <;> simp [finish]

end Sys2Proof.Machine
end

