-- ==== Sys2Proof/Laws/PerInstr.lean ====
section
/-! SUPPORT. A fact about every instruction, one lemma per constructor: its encoding has the length its opcode byte
announces (spec/30_encoding.md R300). -/

namespace Sys2Proof.Laws.EncodedLength

/-- The encoding of `i` is as long as its opcode byte says. -/
def Statement (i : Instr) : Prop := (encode i).length = opLength i.opcode

/-- The statement from its three ground facts. -/
theorem of_parts {i : Instr} (n : Nat) (op : Byte) (hb : i.operandBytes.length + 1 = n) (ho : i.opcode = op)
    (hl : opLength op = n) : Statement i := by
  rw [Statement, ho, hl, ← hb]; rfl

theorem nop : Statement .nop :=
  of_parts 1 0x00 rfl rfl rfl
theorem lxiB (d16 : Word) : Statement (.lxiB d16) :=
  of_parts 3 0x01 rfl rfl rfl
theorem staxB : Statement .staxB :=
  of_parts 1 0x02 rfl rfl rfl
theorem inxB : Statement .inxB :=
  of_parts 1 0x03 rfl rfl rfl
theorem inrB : Statement .inrB :=
  of_parts 1 0x04 rfl rfl rfl
theorem dcrB : Statement .dcrB :=
  of_parts 1 0x05 rfl rfl rfl
theorem mviB (d8 : Byte) : Statement (.mviB d8) :=
  of_parts 2 0x06 rfl rfl rfl
theorem rlc : Statement .rlc :=
  of_parts 1 0x07 rfl rfl rfl
theorem unimpl08 : Statement .unimpl08 :=
  of_parts 1 0x08 rfl rfl rfl
theorem dadB : Statement .dadB :=
  of_parts 1 0x09 rfl rfl rfl
theorem ldaxB : Statement .ldaxB :=
  of_parts 1 0x0A rfl rfl rfl
theorem dcxB : Statement .dcxB :=
  of_parts 1 0x0B rfl rfl rfl
theorem inrC : Statement .inrC :=
  of_parts 1 0x0C rfl rfl rfl
theorem dcrC : Statement .dcrC :=
  of_parts 1 0x0D rfl rfl rfl
theorem mviC (d8 : Byte) : Statement (.mviC d8) :=
  of_parts 2 0x0E rfl rfl rfl
theorem rrc : Statement .rrc :=
  of_parts 1 0x0F rfl rfl rfl
theorem unimpl10 : Statement .unimpl10 :=
  of_parts 1 0x10 rfl rfl rfl
theorem lxiD (d16 : Word) : Statement (.lxiD d16) :=
  of_parts 3 0x11 rfl rfl rfl
theorem staxD : Statement .staxD :=
  of_parts 1 0x12 rfl rfl rfl
theorem inxD : Statement .inxD :=
  of_parts 1 0x13 rfl rfl rfl
theorem inrD : Statement .inrD :=
  of_parts 1 0x14 rfl rfl rfl
theorem dcrD : Statement .dcrD :=
  of_parts 1 0x15 rfl rfl rfl
theorem mviD (d8 : Byte) : Statement (.mviD d8) :=
  of_parts 2 0x16 rfl rfl rfl
theorem ral : Statement .ral :=
  of_parts 1 0x17 rfl rfl rfl
theorem unimpl18 : Statement .unimpl18 :=
  of_parts 1 0x18 rfl rfl rfl
theorem dadD : Statement .dadD :=
  of_parts 1 0x19 rfl rfl rfl
theorem ldaxD : Statement .ldaxD :=
  of_parts 1 0x1A rfl rfl rfl
theorem dcxD : Statement .dcxD :=
  of_parts 1 0x1B rfl rfl rfl
theorem inrE : Statement .inrE :=
  of_parts 1 0x1C rfl rfl rfl
theorem dcrE : Statement .dcrE :=
  of_parts 1 0x1D rfl rfl rfl
theorem mviE (d8 : Byte) : Statement (.mviE d8) :=
  of_parts 2 0x1E rfl rfl rfl
theorem rar : Statement .rar :=
  of_parts 1 0x1F rfl rfl rfl
theorem unimpl20 : Statement .unimpl20 :=
  of_parts 1 0x20 rfl rfl rfl
theorem lxiH (d16 : Word) : Statement (.lxiH d16) :=
  of_parts 3 0x21 rfl rfl rfl
theorem shld (a16 : Word) : Statement (.shld a16) :=
  of_parts 3 0x22 rfl rfl rfl
theorem inxH : Statement .inxH :=
  of_parts 1 0x23 rfl rfl rfl
theorem inrH : Statement .inrH :=
  of_parts 1 0x24 rfl rfl rfl
theorem dcrH : Statement .dcrH :=
  of_parts 1 0x25 rfl rfl rfl
theorem mviH (d8 : Byte) : Statement (.mviH d8) :=
  of_parts 2 0x26 rfl rfl rfl
theorem daa : Statement .daa :=
  of_parts 1 0x27 rfl rfl rfl
theorem unimpl28 : Statement .unimpl28 :=
  of_parts 1 0x28 rfl rfl rfl
theorem dadH : Statement .dadH :=
  of_parts 1 0x29 rfl rfl rfl
theorem lhld (a16 : Word) : Statement (.lhld a16) :=
  of_parts 3 0x2A rfl rfl rfl
theorem dcxH : Statement .dcxH :=
  of_parts 1 0x2B rfl rfl rfl
theorem inrL : Statement .inrL :=
  of_parts 1 0x2C rfl rfl rfl
theorem dcrL : Statement .dcrL :=
  of_parts 1 0x2D rfl rfl rfl
theorem mviL (d8 : Byte) : Statement (.mviL d8) :=
  of_parts 2 0x2E rfl rfl rfl
theorem cma : Statement .cma :=
  of_parts 1 0x2F rfl rfl rfl
theorem unimpl30 : Statement .unimpl30 :=
  of_parts 1 0x30 rfl rfl rfl
theorem lxiSP (d16 : Word) : Statement (.lxiSP d16) :=
  of_parts 3 0x31 rfl rfl rfl
theorem sta (a16 : Word) : Statement (.sta a16) :=
  of_parts 3 0x32 rfl rfl rfl
theorem inxSP : Statement .inxSP :=
  of_parts 1 0x33 rfl rfl rfl
theorem inrM : Statement .inrM :=
  of_parts 1 0x34 rfl rfl rfl
theorem dcrM : Statement .dcrM :=
  of_parts 1 0x35 rfl rfl rfl
theorem mviM (d8 : Byte) : Statement (.mviM d8) :=
  of_parts 2 0x36 rfl rfl rfl
theorem stc : Statement .stc :=
  of_parts 1 0x37 rfl rfl rfl
theorem unimpl38 : Statement .unimpl38 :=
  of_parts 1 0x38 rfl rfl rfl
theorem dadSP : Statement .dadSP :=
  of_parts 1 0x39 rfl rfl rfl
theorem lda (a16 : Word) : Statement (.lda a16) :=
  of_parts 3 0x3A rfl rfl rfl
theorem dcxSP : Statement .dcxSP :=
  of_parts 1 0x3B rfl rfl rfl
theorem inrA : Statement .inrA :=
  of_parts 1 0x3C rfl rfl rfl
theorem dcrA : Statement .dcrA :=
  of_parts 1 0x3D rfl rfl rfl
theorem mviA (d8 : Byte) : Statement (.mviA d8) :=
  of_parts 2 0x3E rfl rfl rfl
theorem cmc : Statement .cmc :=
  of_parts 1 0x3F rfl rfl rfl
theorem movBB : Statement .movBB :=
  of_parts 1 0x40 rfl rfl rfl
theorem movBC : Statement .movBC :=
  of_parts 1 0x41 rfl rfl rfl
theorem movBD : Statement .movBD :=
  of_parts 1 0x42 rfl rfl rfl
theorem movBE : Statement .movBE :=
  of_parts 1 0x43 rfl rfl rfl
theorem movBH : Statement .movBH :=
  of_parts 1 0x44 rfl rfl rfl
theorem movBL : Statement .movBL :=
  of_parts 1 0x45 rfl rfl rfl
theorem movBM : Statement .movBM :=
  of_parts 1 0x46 rfl rfl rfl
theorem movBA : Statement .movBA :=
  of_parts 1 0x47 rfl rfl rfl
theorem movCB : Statement .movCB :=
  of_parts 1 0x48 rfl rfl rfl
theorem movCC : Statement .movCC :=
  of_parts 1 0x49 rfl rfl rfl
theorem movCD : Statement .movCD :=
  of_parts 1 0x4A rfl rfl rfl
theorem movCE : Statement .movCE :=
  of_parts 1 0x4B rfl rfl rfl
theorem movCH : Statement .movCH :=
  of_parts 1 0x4C rfl rfl rfl
theorem movCL : Statement .movCL :=
  of_parts 1 0x4D rfl rfl rfl
theorem movCM : Statement .movCM :=
  of_parts 1 0x4E rfl rfl rfl
theorem movCA : Statement .movCA :=
  of_parts 1 0x4F rfl rfl rfl
theorem movDB : Statement .movDB :=
  of_parts 1 0x50 rfl rfl rfl
theorem movDC : Statement .movDC :=
  of_parts 1 0x51 rfl rfl rfl
theorem movDD : Statement .movDD :=
  of_parts 1 0x52 rfl rfl rfl
theorem movDE : Statement .movDE :=
  of_parts 1 0x53 rfl rfl rfl
theorem movDH : Statement .movDH :=
  of_parts 1 0x54 rfl rfl rfl
theorem movDL : Statement .movDL :=
  of_parts 1 0x55 rfl rfl rfl
theorem movDM : Statement .movDM :=
  of_parts 1 0x56 rfl rfl rfl
theorem movDA : Statement .movDA :=
  of_parts 1 0x57 rfl rfl rfl
theorem movEB : Statement .movEB :=
  of_parts 1 0x58 rfl rfl rfl
theorem movEC : Statement .movEC :=
  of_parts 1 0x59 rfl rfl rfl
theorem movED : Statement .movED :=
  of_parts 1 0x5A rfl rfl rfl
theorem movEE : Statement .movEE :=
  of_parts 1 0x5B rfl rfl rfl
theorem movEH : Statement .movEH :=
  of_parts 1 0x5C rfl rfl rfl
theorem movEL : Statement .movEL :=
  of_parts 1 0x5D rfl rfl rfl
theorem movEM : Statement .movEM :=
  of_parts 1 0x5E rfl rfl rfl
theorem movEA : Statement .movEA :=
  of_parts 1 0x5F rfl rfl rfl
theorem movHB : Statement .movHB :=
  of_parts 1 0x60 rfl rfl rfl
theorem movHC : Statement .movHC :=
  of_parts 1 0x61 rfl rfl rfl
theorem movHD : Statement .movHD :=
  of_parts 1 0x62 rfl rfl rfl
theorem movHE : Statement .movHE :=
  of_parts 1 0x63 rfl rfl rfl
theorem movHH : Statement .movHH :=
  of_parts 1 0x64 rfl rfl rfl
theorem movHL : Statement .movHL :=
  of_parts 1 0x65 rfl rfl rfl
theorem movHM : Statement .movHM :=
  of_parts 1 0x66 rfl rfl rfl
theorem movHA : Statement .movHA :=
  of_parts 1 0x67 rfl rfl rfl
theorem movLB : Statement .movLB :=
  of_parts 1 0x68 rfl rfl rfl
theorem movLC : Statement .movLC :=
  of_parts 1 0x69 rfl rfl rfl
theorem movLD : Statement .movLD :=
  of_parts 1 0x6A rfl rfl rfl
theorem movLE : Statement .movLE :=
  of_parts 1 0x6B rfl rfl rfl
theorem movLH : Statement .movLH :=
  of_parts 1 0x6C rfl rfl rfl
theorem movLL : Statement .movLL :=
  of_parts 1 0x6D rfl rfl rfl
theorem movLM : Statement .movLM :=
  of_parts 1 0x6E rfl rfl rfl
theorem movLA : Statement .movLA :=
  of_parts 1 0x6F rfl rfl rfl
theorem movMB : Statement .movMB :=
  of_parts 1 0x70 rfl rfl rfl
theorem movMC : Statement .movMC :=
  of_parts 1 0x71 rfl rfl rfl
theorem movMD : Statement .movMD :=
  of_parts 1 0x72 rfl rfl rfl
theorem movME : Statement .movME :=
  of_parts 1 0x73 rfl rfl rfl
theorem movMH : Statement .movMH :=
  of_parts 1 0x74 rfl rfl rfl
theorem movML : Statement .movML :=
  of_parts 1 0x75 rfl rfl rfl
theorem hlt : Statement .hlt :=
  of_parts 1 0x76 rfl rfl rfl
theorem movMA : Statement .movMA :=
  of_parts 1 0x77 rfl rfl rfl
theorem movAB : Statement .movAB :=
  of_parts 1 0x78 rfl rfl rfl
theorem movAC : Statement .movAC :=
  of_parts 1 0x79 rfl rfl rfl
theorem movAD : Statement .movAD :=
  of_parts 1 0x7A rfl rfl rfl
theorem movAE : Statement .movAE :=
  of_parts 1 0x7B rfl rfl rfl
theorem movAH : Statement .movAH :=
  of_parts 1 0x7C rfl rfl rfl
theorem movAL : Statement .movAL :=
  of_parts 1 0x7D rfl rfl rfl
theorem movAM : Statement .movAM :=
  of_parts 1 0x7E rfl rfl rfl
theorem movAA : Statement .movAA :=
  of_parts 1 0x7F rfl rfl rfl
theorem addB : Statement .addB :=
  of_parts 1 0x80 rfl rfl rfl
theorem addC : Statement .addC :=
  of_parts 1 0x81 rfl rfl rfl
theorem addD : Statement .addD :=
  of_parts 1 0x82 rfl rfl rfl
theorem addE : Statement .addE :=
  of_parts 1 0x83 rfl rfl rfl
theorem addH : Statement .addH :=
  of_parts 1 0x84 rfl rfl rfl
theorem addL : Statement .addL :=
  of_parts 1 0x85 rfl rfl rfl
theorem addM : Statement .addM :=
  of_parts 1 0x86 rfl rfl rfl
theorem addA : Statement .addA :=
  of_parts 1 0x87 rfl rfl rfl
theorem adcB : Statement .adcB :=
  of_parts 1 0x88 rfl rfl rfl
theorem adcC : Statement .adcC :=
  of_parts 1 0x89 rfl rfl rfl
theorem adcD : Statement .adcD :=
  of_parts 1 0x8A rfl rfl rfl
theorem adcE : Statement .adcE :=
  of_parts 1 0x8B rfl rfl rfl
theorem adcH : Statement .adcH :=
  of_parts 1 0x8C rfl rfl rfl
theorem adcL : Statement .adcL :=
  of_parts 1 0x8D rfl rfl rfl
theorem adcM : Statement .adcM :=
  of_parts 1 0x8E rfl rfl rfl
theorem adcA : Statement .adcA :=
  of_parts 1 0x8F rfl rfl rfl
theorem subB : Statement .subB :=
  of_parts 1 0x90 rfl rfl rfl
theorem subC : Statement .subC :=
  of_parts 1 0x91 rfl rfl rfl
theorem subD : Statement .subD :=
  of_parts 1 0x92 rfl rfl rfl
theorem subE : Statement .subE :=
  of_parts 1 0x93 rfl rfl rfl
theorem subH : Statement .subH :=
  of_parts 1 0x94 rfl rfl rfl
theorem subL : Statement .subL :=
  of_parts 1 0x95 rfl rfl rfl
theorem subM : Statement .subM :=
  of_parts 1 0x96 rfl rfl rfl
theorem subA : Statement .subA :=
  of_parts 1 0x97 rfl rfl rfl
theorem sbbB : Statement .sbbB :=
  of_parts 1 0x98 rfl rfl rfl
theorem sbbC : Statement .sbbC :=
  of_parts 1 0x99 rfl rfl rfl
theorem sbbD : Statement .sbbD :=
  of_parts 1 0x9A rfl rfl rfl
theorem sbbE : Statement .sbbE :=
  of_parts 1 0x9B rfl rfl rfl
theorem sbbH : Statement .sbbH :=
  of_parts 1 0x9C rfl rfl rfl
theorem sbbL : Statement .sbbL :=
  of_parts 1 0x9D rfl rfl rfl
theorem sbbM : Statement .sbbM :=
  of_parts 1 0x9E rfl rfl rfl
theorem sbbA : Statement .sbbA :=
  of_parts 1 0x9F rfl rfl rfl
theorem anaB : Statement .anaB :=
  of_parts 1 0xA0 rfl rfl rfl
theorem anaC : Statement .anaC :=
  of_parts 1 0xA1 rfl rfl rfl
theorem anaD : Statement .anaD :=
  of_parts 1 0xA2 rfl rfl rfl
theorem anaE : Statement .anaE :=
  of_parts 1 0xA3 rfl rfl rfl
theorem anaH : Statement .anaH :=
  of_parts 1 0xA4 rfl rfl rfl
theorem anaL : Statement .anaL :=
  of_parts 1 0xA5 rfl rfl rfl
theorem anaM : Statement .anaM :=
  of_parts 1 0xA6 rfl rfl rfl
theorem anaA : Statement .anaA :=
  of_parts 1 0xA7 rfl rfl rfl
theorem xraB : Statement .xraB :=
  of_parts 1 0xA8 rfl rfl rfl
theorem xraC : Statement .xraC :=
  of_parts 1 0xA9 rfl rfl rfl
theorem xraD : Statement .xraD :=
  of_parts 1 0xAA rfl rfl rfl
theorem xraE : Statement .xraE :=
  of_parts 1 0xAB rfl rfl rfl
theorem xraH : Statement .xraH :=
  of_parts 1 0xAC rfl rfl rfl
theorem xraL : Statement .xraL :=
  of_parts 1 0xAD rfl rfl rfl
theorem xraM : Statement .xraM :=
  of_parts 1 0xAE rfl rfl rfl
theorem xraA : Statement .xraA :=
  of_parts 1 0xAF rfl rfl rfl
theorem oraB : Statement .oraB :=
  of_parts 1 0xB0 rfl rfl rfl
theorem oraC : Statement .oraC :=
  of_parts 1 0xB1 rfl rfl rfl
theorem oraD : Statement .oraD :=
  of_parts 1 0xB2 rfl rfl rfl
theorem oraE : Statement .oraE :=
  of_parts 1 0xB3 rfl rfl rfl
theorem oraH : Statement .oraH :=
  of_parts 1 0xB4 rfl rfl rfl
theorem oraL : Statement .oraL :=
  of_parts 1 0xB5 rfl rfl rfl
theorem oraM : Statement .oraM :=
  of_parts 1 0xB6 rfl rfl rfl
theorem oraA : Statement .oraA :=
  of_parts 1 0xB7 rfl rfl rfl
theorem cmpB : Statement .cmpB :=
  of_parts 1 0xB8 rfl rfl rfl
theorem cmpC : Statement .cmpC :=
  of_parts 1 0xB9 rfl rfl rfl
theorem cmpD : Statement .cmpD :=
  of_parts 1 0xBA rfl rfl rfl
theorem cmpE : Statement .cmpE :=
  of_parts 1 0xBB rfl rfl rfl
theorem cmpH : Statement .cmpH :=
  of_parts 1 0xBC rfl rfl rfl
theorem cmpL : Statement .cmpL :=
  of_parts 1 0xBD rfl rfl rfl
theorem cmpM : Statement .cmpM :=
  of_parts 1 0xBE rfl rfl rfl
theorem cmpA : Statement .cmpA :=
  of_parts 1 0xBF rfl rfl rfl
theorem rnz : Statement .rnz :=
  of_parts 1 0xC0 rfl rfl rfl
theorem popB : Statement .popB :=
  of_parts 1 0xC1 rfl rfl rfl
theorem jnz (a16 : Word) : Statement (.jnz a16) :=
  of_parts 3 0xC2 rfl rfl rfl
theorem jmp (a16 : Word) : Statement (.jmp a16) :=
  of_parts 3 0xC3 rfl rfl rfl
theorem cnz (a16 : Word) : Statement (.cnz a16) :=
  of_parts 3 0xC4 rfl rfl rfl
theorem pushB : Statement .pushB :=
  of_parts 1 0xC5 rfl rfl rfl
theorem adi (d8 : Byte) : Statement (.adi d8) :=
  of_parts 2 0xC6 rfl rfl rfl
theorem rst0 : Statement .rst0 :=
  of_parts 1 0xC7 rfl rfl rfl
theorem rz : Statement .rz :=
  of_parts 1 0xC8 rfl rfl rfl
theorem ret : Statement .ret :=
  of_parts 1 0xC9 rfl rfl rfl
theorem jz (a16 : Word) : Statement (.jz a16) :=
  of_parts 3 0xCA rfl rfl rfl
theorem unimplCB : Statement .unimplCB :=
  of_parts 1 0xCB rfl rfl rfl
theorem cz (a16 : Word) : Statement (.cz a16) :=
  of_parts 3 0xCC rfl rfl rfl
theorem call (a16 : Word) : Statement (.call a16) :=
  of_parts 3 0xCD rfl rfl rfl
theorem aci (d8 : Byte) : Statement (.aci d8) :=
  of_parts 2 0xCE rfl rfl rfl
theorem rst1 : Statement .rst1 :=
  of_parts 1 0xCF rfl rfl rfl
theorem rnc : Statement .rnc :=
  of_parts 1 0xD0 rfl rfl rfl
theorem popD : Statement .popD :=
  of_parts 1 0xD1 rfl rfl rfl
theorem jnc (a16 : Word) : Statement (.jnc a16) :=
  of_parts 3 0xD2 rfl rfl rfl
theorem out (d8 : Byte) : Statement (.out d8) :=
  of_parts 2 0xD3 rfl rfl rfl
theorem cnc (a16 : Word) : Statement (.cnc a16) :=
  of_parts 3 0xD4 rfl rfl rfl
theorem pushD : Statement .pushD :=
  of_parts 1 0xD5 rfl rfl rfl
theorem sui (d8 : Byte) : Statement (.sui d8) :=
  of_parts 2 0xD6 rfl rfl rfl
theorem rst2 : Statement .rst2 :=
  of_parts 1 0xD7 rfl rfl rfl
theorem rc : Statement .rc :=
  of_parts 1 0xD8 rfl rfl rfl
theorem unimplD9 : Statement .unimplD9 :=
  of_parts 1 0xD9 rfl rfl rfl
theorem jc (a16 : Word) : Statement (.jc a16) :=
  of_parts 3 0xDA rfl rfl rfl
theorem inp (d8 : Byte) : Statement (.inp d8) :=
  of_parts 2 0xDB rfl rfl rfl
theorem cc (a16 : Word) : Statement (.cc a16) :=
  of_parts 3 0xDC rfl rfl rfl
theorem unimplDD : Statement .unimplDD :=
  of_parts 1 0xDD rfl rfl rfl
theorem sbi (d8 : Byte) : Statement (.sbi d8) :=
  of_parts 2 0xDE rfl rfl rfl
theorem rst3 : Statement .rst3 :=
  of_parts 1 0xDF rfl rfl rfl
theorem rpo : Statement .rpo :=
  of_parts 1 0xE0 rfl rfl rfl
theorem popH : Statement .popH :=
  of_parts 1 0xE1 rfl rfl rfl
theorem jpo (a16 : Word) : Statement (.jpo a16) :=
  of_parts 3 0xE2 rfl rfl rfl
theorem xthl : Statement .xthl :=
  of_parts 1 0xE3 rfl rfl rfl
theorem cpo (a16 : Word) : Statement (.cpo a16) :=
  of_parts 3 0xE4 rfl rfl rfl
theorem pushH : Statement .pushH :=
  of_parts 1 0xE5 rfl rfl rfl
theorem ani (d8 : Byte) : Statement (.ani d8) :=
  of_parts 2 0xE6 rfl rfl rfl
theorem rst4 : Statement .rst4 :=
  of_parts 1 0xE7 rfl rfl rfl
theorem rpe : Statement .rpe :=
  of_parts 1 0xE8 rfl rfl rfl
theorem pchl : Statement .pchl :=
  of_parts 1 0xE9 rfl rfl rfl
theorem jpe (a16 : Word) : Statement (.jpe a16) :=
  of_parts 3 0xEA rfl rfl rfl
theorem xchg : Statement .xchg :=
  of_parts 1 0xEB rfl rfl rfl
theorem cpe (a16 : Word) : Statement (.cpe a16) :=
  of_parts 3 0xEC rfl rfl rfl
theorem unimplED : Statement .unimplED :=
  of_parts 1 0xED rfl rfl rfl
theorem xri (d8 : Byte) : Statement (.xri d8) :=
  of_parts 2 0xEE rfl rfl rfl
theorem rst5 : Statement .rst5 :=
  of_parts 1 0xEF rfl rfl rfl
theorem rp : Statement .rp :=
  of_parts 1 0xF0 rfl rfl rfl
theorem popPSW : Statement .popPSW :=
  of_parts 1 0xF1 rfl rfl rfl
theorem jp (a16 : Word) : Statement (.jp a16) :=
  of_parts 3 0xF2 rfl rfl rfl
theorem di : Statement .di :=
  of_parts 1 0xF3 rfl rfl rfl
theorem cp (a16 : Word) : Statement (.cp a16) :=
  of_parts 3 0xF4 rfl rfl rfl
theorem pushPSW : Statement .pushPSW :=
  of_parts 1 0xF5 rfl rfl rfl
theorem ori (d8 : Byte) : Statement (.ori d8) :=
  of_parts 2 0xF6 rfl rfl rfl
theorem rst6 : Statement .rst6 :=
  of_parts 1 0xF7 rfl rfl rfl
theorem rm : Statement .rm :=
  of_parts 1 0xF8 rfl rfl rfl
theorem sphl : Statement .sphl :=
  of_parts 1 0xF9 rfl rfl rfl
theorem jm (a16 : Word) : Statement (.jm a16) :=
  of_parts 3 0xFA rfl rfl rfl
theorem ei : Statement .ei :=
  of_parts 1 0xFB rfl rfl rfl
theorem cm (a16 : Word) : Statement (.cm a16) :=
  of_parts 3 0xFC rfl rfl rfl
theorem unimplFD : Statement .unimplFD :=
  of_parts 1 0xFD rfl rfl rfl
theorem cpi (d8 : Byte) : Statement (.cpi d8) :=
  of_parts 2 0xFE rfl rfl rfl
theorem rst7 : Statement .rst7 :=
  of_parts 1 0xFF rfl rfl rfl

end Sys2Proof.Laws.EncodedLength
end

