-- ==== Sys2Proof/Tests/Slice0.lean ====
section
/-! SUPPORT. Tests and witnesses. Expected results come from the spec: the encoding lines of spec/30_encoding.md and of
the instruction rules, and the vectors of spec/95_test_vectors.md (named in the theorems). The last part gives, for every
obligation with hypotheses, concrete states and operands that meet them. -/

open Sys2Proof Sys2Proof.Machine

namespace Sys2Proof.Tests

/-! ## States -/

/-- The configurations of spec/95_test_vectors.md section 1. -/
def cfg16 : Config := { exConfig with memSize := 0x4000 }
def cfgM : Config := { exConfig with mirrorLo := 0x4000, mirrorHi := 0x5FFF, mirrorOffset := 0x2000 }
def cfgM2 : Config := { cfgM with mirrorOffset := 0x3000 }
def cfgEmu3 : Config := { exConfig with romBoundary := 0x0800 }

/-- The start states of the vectors: every register 0, memory empty. -/
def ex : State := { State.reset with pc := 0x0100 }
def ex16 : State := { ex with cfg := cfg16 }
def exM : State := { ex with cfg := cfgM }
def exM2 : State := { ex with cfg := cfgM2 }
def emu3 : State := { ex with cfg := cfgEmu3 }

/-- Flags in the order Z S P CY AC of the vectors. -/
def zspca (z s p cy ac : Nat) : Flags := { z := z = 1, s := s = 1, p := p = 1, cy := cy = 1, ac := ac = 1 }

/-- Bytes placed at an address (no write guard, R1301). -/
def placedAt (s : State) (a : Nat) (bs : List Byte) : State := { s with mem := Memory.load s.mem a bs }

/-- The next state of one step with the instruction's bytes placed at PC. -/
def run (bs : List Byte) (s : State) : Option State :=
  match step (placedAt s s.pc.toNat bs) with
  | .next t => some t
  | .fault _ => none
  | .refused _ => none

/-- The fault of one step with the instruction's bytes placed at PC. -/
def faultOf (bs : List Byte) (s : State) : Option Fault :=
  match step (placedAt s s.pc.toNat bs) with
  | .next _ => none
  | .fault r => some r
  | .refused _ => none

/-! ## Well-formedness: the good terms pass, and each check refuses one ill-formed term -/

theorem test_wf_ex : exConfig.wf := by decide +kernel
theorem test_wf_memSize_low : ¬ { exConfig with memSize := 16383 }.wf := fun h => absurd h.1 (by decide)
theorem test_wf_memSize_high : ¬ { exConfig with memSize := 65537 }.wf := fun h => absurd h.2.1 (by decide)
theorem test_wf_romBoundary : ¬ { exConfig with romBoundary := 0x10000 }.wf := fun h => absurd h.2.2.1 (by decide)
theorem test_wf_mirrorOffset : ¬ { exConfig with mirrorOffset := 2 }.wf := fun h => absurd h.2.2.2.1 (by decide)
theorem test_wf_costs : ¬ { exConfig with cycleCost := [4] }.wf := fun h => absurd h.2.2.2.2.1 (by decide)
theorem test_wf_psw_same_position : ¬ { exConfig.psw with posZ := 7 }.wf := by decide
theorem test_wf_psw_pad : ¬ { exConfig.psw with pad := 0x42 }.wf := by decide
theorem test_wf_image_outside : ¬ imagesWf 0x4000 [{ offset := 0x3FFF, bytes := [1, 2] }] := by decide
theorem test_wf_images_overlap : ¬ imagesWf 0x4000 [{ offset := 0, bytes := [1, 2] }, { offset := 1, bytes := [3] }] := by
  decide
theorem test_wf_vector : vectorWf 1 ∧ vectorWf 7 ∧ ¬ vectorWf 0 ∧ ¬ vectorWf 8 := by decide
theorem test_wf_instr : Instr.wellFormed .nop = true ∧ ∀ o, (Instr.unimpl o).wellFormed = false :=
  ⟨rfl, fun o => by cases o <;> rfl⟩

/-! ## Decoding and encoding: for each opcode, the word of its encoding line, fields written as bits -/

def words0 : List (List Byte × Instr) :=
  [([0b00000000], .nop), ([0b00000001, 0x34, 0x12], .lxiB 0x1234), ([0b00000010], .staxB), ([0b00000011], .inxB),
   ([0b00000100], .inrB), ([0b00000101], .dcrB), ([0b00000110, 0x5A], .mviB 0x5A), ([0b00000111], .rlc),
   ([0b00001000], .unimpl08), ([0b00001001], .dadB), ([0b00001010], .ldaxB), ([0b00001011], .dcxB),
   ([0b00001100], .inrC), ([0b00001101], .dcrC), ([0b00001110, 0x5A], .mviC 0x5A), ([0b00001111], .rrc)]
theorem test_decode_0x : words0.map (fun x => decode x.1) = words0.map (fun x => .ok (x.2, [])) := rfl
theorem test_encode_0x : words0.map (fun x => encode x.2) = words0.map (·.1) := rfl

def words1 : List (List Byte × Instr) :=
  [([0b00010000], .unimpl10), ([0b00010001, 0x34, 0x12], .lxiD 0x1234), ([0b00010010], .staxD), ([0b00010011], .inxD),
   ([0b00010100], .inrD), ([0b00010101], .dcrD), ([0b00010110, 0x5A], .mviD 0x5A), ([0b00010111], .ral),
   ([0b00011000], .unimpl18), ([0b00011001], .dadD), ([0b00011010], .ldaxD), ([0b00011011], .dcxD),
   ([0b00011100], .inrE), ([0b00011101], .dcrE), ([0b00011110, 0x5A], .mviE 0x5A), ([0b00011111], .rar)]
theorem test_decode_1x : words1.map (fun x => decode x.1) = words1.map (fun x => .ok (x.2, [])) := rfl
theorem test_encode_1x : words1.map (fun x => encode x.2) = words1.map (·.1) := rfl

def words2 : List (List Byte × Instr) :=
  [([0b00100000], .unimpl20), ([0b00100001, 0x34, 0x12], .lxiH 0x1234), ([0b00100010, 0x34, 0x12], .shld 0x1234),
   ([0b00100011], .inxH), ([0b00100100], .inrH), ([0b00100101], .dcrH), ([0b00100110, 0x5A], .mviH 0x5A),
   ([0b00100111], .daa), ([0b00101000], .unimpl28), ([0b00101001], .dadH), ([0b00101010, 0x34, 0x12], .lhld 0x1234),
   ([0b00101011], .dcxH), ([0b00101100], .inrL), ([0b00101101], .dcrL), ([0b00101110, 0x5A], .mviL 0x5A),
   ([0b00101111], .cma)]
theorem test_decode_2x : words2.map (fun x => decode x.1) = words2.map (fun x => .ok (x.2, [])) := rfl
theorem test_encode_2x : words2.map (fun x => encode x.2) = words2.map (·.1) := rfl

def words3 : List (List Byte × Instr) :=
  [([0b00110000], .unimpl30), ([0b00110001, 0x34, 0x12], .lxiSP 0x1234), ([0b00110010, 0x34, 0x12], .sta 0x1234),
   ([0b00110011], .inxSP), ([0b00110100], .inrM), ([0b00110101], .dcrM), ([0b00110110, 0x5A], .mviM 0x5A),
   ([0b00110111], .stc), ([0b00111000], .unimpl38), ([0b00111001], .dadSP), ([0b00111010, 0x34, 0x12], .lda 0x1234),
   ([0b00111011], .dcxSP), ([0b00111100], .inrA), ([0b00111101], .dcrA), ([0b00111110, 0x5A], .mviA 0x5A),
   ([0b00111111], .cmc)]
theorem test_decode_3x : words3.map (fun x => decode x.1) = words3.map (fun x => .ok (x.2, [])) := rfl
theorem test_encode_3x : words3.map (fun x => encode x.2) = words3.map (·.1) := rfl

def words4 : List (List Byte × Instr) :=
  [([0b01000000], .movBB), ([0b01000001], .movBC), ([0b01000010], .movBD), ([0b01000011], .movBE),
   ([0b01000100], .movBH), ([0b01000101], .movBL), ([0b01000110], .movBM), ([0b01000111], .movBA),
   ([0b01001000], .movCB), ([0b01001001], .movCC), ([0b01001010], .movCD), ([0b01001011], .movCE),
   ([0b01001100], .movCH), ([0b01001101], .movCL), ([0b01001110], .movCM), ([0b01001111], .movCA)]
theorem test_decode_4x : words4.map (fun x => decode x.1) = words4.map (fun x => .ok (x.2, [])) := rfl
theorem test_encode_4x : words4.map (fun x => encode x.2) = words4.map (·.1) := rfl

def words5 : List (List Byte × Instr) :=
  [([0b01010000], .movDB), ([0b01010001], .movDC), ([0b01010010], .movDD), ([0b01010011], .movDE),
   ([0b01010100], .movDH), ([0b01010101], .movDL), ([0b01010110], .movDM), ([0b01010111], .movDA),
   ([0b01011000], .movEB), ([0b01011001], .movEC), ([0b01011010], .movED), ([0b01011011], .movEE),
   ([0b01011100], .movEH), ([0b01011101], .movEL), ([0b01011110], .movEM), ([0b01011111], .movEA)]
theorem test_decode_5x : words5.map (fun x => decode x.1) = words5.map (fun x => .ok (x.2, [])) := rfl
theorem test_encode_5x : words5.map (fun x => encode x.2) = words5.map (·.1) := rfl

def words6 : List (List Byte × Instr) :=
  [([0b01100000], .movHB), ([0b01100001], .movHC), ([0b01100010], .movHD), ([0b01100011], .movHE),
   ([0b01100100], .movHH), ([0b01100101], .movHL), ([0b01100110], .movHM), ([0b01100111], .movHA),
   ([0b01101000], .movLB), ([0b01101001], .movLC), ([0b01101010], .movLD), ([0b01101011], .movLE),
   ([0b01101100], .movLH), ([0b01101101], .movLL), ([0b01101110], .movLM), ([0b01101111], .movLA)]
theorem test_decode_6x : words6.map (fun x => decode x.1) = words6.map (fun x => .ok (x.2, [])) := rfl
theorem test_encode_6x : words6.map (fun x => encode x.2) = words6.map (·.1) := rfl

def words7 : List (List Byte × Instr) :=
  [([0b01110000], .movMB), ([0b01110001], .movMC), ([0b01110010], .movMD), ([0b01110011], .movME),
   ([0b01110100], .movMH), ([0b01110101], .movML), ([0b01110110], .hlt), ([0b01110111], .movMA),
   ([0b01111000], .movAB), ([0b01111001], .movAC), ([0b01111010], .movAD), ([0b01111011], .movAE),
   ([0b01111100], .movAH), ([0b01111101], .movAL), ([0b01111110], .movAM), ([0b01111111], .movAA)]
theorem test_decode_7x : words7.map (fun x => decode x.1) = words7.map (fun x => .ok (x.2, [])) := rfl
theorem test_encode_7x : words7.map (fun x => encode x.2) = words7.map (·.1) := rfl

def words8 : List (List Byte × Instr) :=
  [([0b10000000], .addB), ([0b10000001], .addC), ([0b10000010], .addD), ([0b10000011], .addE), ([0b10000100], .addH),
   ([0b10000101], .addL), ([0b10000110], .addM), ([0b10000111], .addA), ([0b10001000], .adcB), ([0b10001001], .adcC),
   ([0b10001010], .adcD), ([0b10001011], .adcE), ([0b10001100], .adcH), ([0b10001101], .adcL), ([0b10001110], .adcM),
   ([0b10001111], .adcA)]
theorem test_decode_8x : words8.map (fun x => decode x.1) = words8.map (fun x => .ok (x.2, [])) := rfl
theorem test_encode_8x : words8.map (fun x => encode x.2) = words8.map (·.1) := rfl

def words9 : List (List Byte × Instr) :=
  [([0b10010000], .subB), ([0b10010001], .subC), ([0b10010010], .subD), ([0b10010011], .subE), ([0b10010100], .subH),
   ([0b10010101], .subL), ([0b10010110], .subM), ([0b10010111], .subA), ([0b10011000], .sbbB), ([0b10011001], .sbbC),
   ([0b10011010], .sbbD), ([0b10011011], .sbbE), ([0b10011100], .sbbH), ([0b10011101], .sbbL), ([0b10011110], .sbbM),
   ([0b10011111], .sbbA)]
theorem test_decode_9x : words9.map (fun x => decode x.1) = words9.map (fun x => .ok (x.2, [])) := rfl
theorem test_encode_9x : words9.map (fun x => encode x.2) = words9.map (·.1) := rfl

def wordsA : List (List Byte × Instr) :=
  [([0b10100000], .anaB), ([0b10100001], .anaC), ([0b10100010], .anaD), ([0b10100011], .anaE), ([0b10100100], .anaH),
   ([0b10100101], .anaL), ([0b10100110], .anaM), ([0b10100111], .anaA), ([0b10101000], .xraB), ([0b10101001], .xraC),
   ([0b10101010], .xraD), ([0b10101011], .xraE), ([0b10101100], .xraH), ([0b10101101], .xraL), ([0b10101110], .xraM),
   ([0b10101111], .xraA)]
theorem test_decode_Ax : wordsA.map (fun x => decode x.1) = wordsA.map (fun x => .ok (x.2, [])) := rfl
theorem test_encode_Ax : wordsA.map (fun x => encode x.2) = wordsA.map (·.1) := rfl

def wordsB : List (List Byte × Instr) :=
  [([0b10110000], .oraB), ([0b10110001], .oraC), ([0b10110010], .oraD), ([0b10110011], .oraE), ([0b10110100], .oraH),
   ([0b10110101], .oraL), ([0b10110110], .oraM), ([0b10110111], .oraA), ([0b10111000], .cmpB), ([0b10111001], .cmpC),
   ([0b10111010], .cmpD), ([0b10111011], .cmpE), ([0b10111100], .cmpH), ([0b10111101], .cmpL), ([0b10111110], .cmpM),
   ([0b10111111], .cmpA)]
theorem test_decode_Bx : wordsB.map (fun x => decode x.1) = wordsB.map (fun x => .ok (x.2, [])) := rfl
theorem test_encode_Bx : wordsB.map (fun x => encode x.2) = wordsB.map (·.1) := rfl

def wordsC : List (List Byte × Instr) :=
  [([0b11000000], .rnz), ([0b11000001], .popB), ([0b11000010, 0x34, 0x12], .jnz 0x1234),
   ([0b11000011, 0x34, 0x12], .jmp 0x1234), ([0b11000100, 0x34, 0x12], .cnz 0x1234), ([0b11000101], .pushB),
   ([0b11000110, 0x5A], .adi 0x5A), ([0b11000111], .rst0), ([0b11001000], .rz), ([0b11001001], .ret),
   ([0b11001010, 0x34, 0x12], .jz 0x1234), ([0b11001011], .unimplCB), ([0b11001100, 0x34, 0x12], .cz 0x1234),
   ([0b11001101, 0x34, 0x12], .call 0x1234), ([0b11001110, 0x5A], .aci 0x5A), ([0b11001111], .rst1)]
theorem test_decode_Cx : wordsC.map (fun x => decode x.1) = wordsC.map (fun x => .ok (x.2, [])) := rfl
theorem test_encode_Cx : wordsC.map (fun x => encode x.2) = wordsC.map (·.1) := rfl

def wordsD : List (List Byte × Instr) :=
  [([0b11010000], .rnc), ([0b11010001], .popD), ([0b11010010, 0x34, 0x12], .jnc 0x1234),
   ([0b11010011, 0x5A], .out 0x5A), ([0b11010100, 0x34, 0x12], .cnc 0x1234), ([0b11010101], .pushD),
   ([0b11010110, 0x5A], .sui 0x5A), ([0b11010111], .rst2), ([0b11011000], .rc), ([0b11011001], .unimplD9),
   ([0b11011010, 0x34, 0x12], .jc 0x1234), ([0b11011011, 0x5A], .inp 0x5A), ([0b11011100, 0x34, 0x12], .cc 0x1234),
   ([0b11011101], .unimplDD), ([0b11011110, 0x5A], .sbi 0x5A), ([0b11011111], .rst3)]
theorem test_decode_Dx : wordsD.map (fun x => decode x.1) = wordsD.map (fun x => .ok (x.2, [])) := rfl
theorem test_encode_Dx : wordsD.map (fun x => encode x.2) = wordsD.map (·.1) := rfl

def wordsE : List (List Byte × Instr) :=
  [([0b11100000], .rpo), ([0b11100001], .popH), ([0b11100010, 0x34, 0x12], .jpo 0x1234), ([0b11100011], .xthl),
   ([0b11100100, 0x34, 0x12], .cpo 0x1234), ([0b11100101], .pushH), ([0b11100110, 0x5A], .ani 0x5A),
   ([0b11100111], .rst4), ([0b11101000], .rpe), ([0b11101001], .pchl), ([0b11101010, 0x34, 0x12], .jpe 0x1234),
   ([0b11101011], .xchg), ([0b11101100, 0x34, 0x12], .cpe 0x1234), ([0b11101101], .unimplED),
   ([0b11101110, 0x5A], .xri 0x5A), ([0b11101111], .rst5)]
theorem test_decode_Ex : wordsE.map (fun x => decode x.1) = wordsE.map (fun x => .ok (x.2, [])) := rfl
theorem test_encode_Ex : wordsE.map (fun x => encode x.2) = wordsE.map (·.1) := rfl

def wordsF : List (List Byte × Instr) :=
  [([0b11110000], .rp), ([0b11110001], .popPSW), ([0b11110010, 0x34, 0x12], .jp 0x1234), ([0b11110011], .di),
   ([0b11110100, 0x34, 0x12], .cp 0x1234), ([0b11110101], .pushPSW), ([0b11110110, 0x5A], .ori 0x5A),
   ([0b11110111], .rst6), ([0b11111000], .rm), ([0b11111001], .sphl), ([0b11111010, 0x34, 0x12], .jm 0x1234),
   ([0b11111011], .ei), ([0b11111100, 0x34, 0x12], .cm 0x1234), ([0b11111101], .unimplFD),
   ([0b11111110, 0x5A], .cpi 0x5A), ([0b11111111], .rst7)]
theorem test_decode_Fx : wordsF.map (fun x => decode x.1) = wordsF.map (fun x => .ok (x.2, [])) := rfl
theorem test_encode_Fx : wordsF.map (fun x => encode x.2) = wordsF.map (·.1) := rfl

theorem test_decode_truncated : (decode []).toOption = none ∧ (decode [0xC3, 0x00]).toOption = none := by decide
theorem test_decodeTableWord : decodeTableWord 8 0x78 = some .movAB ∧ decodeTableWord 24 0x123421 = some (.lxiH 0x1234) ∧
    decodeTableWord 8 0xC3 = some (.jmp 0) := by decide
theorem test_withFetchWord : ∃ t, step (State.reset.withFetchWord 16 0x5A3E) = .next t ∧ t.a = 0x5A ∧ t.pc = 2 :=
  ⟨_, rfl, by decide, by decide⟩

/-! ## Single steps: the vectors of spec/95_test_vectors.md -/

theorem test_V_EMU_1 : (run [0x80] { ex with a := 0x0F, b := 0x01 }).map
    (fun t => (t.a, t.flags, t.cyc)) = some (0x10, zspca 0 0 0 0 1, 4) := by decide
theorem test_V_EMU_2 : (run [0xC6, 0x01] { ex with a := 0xFF }).map
    (fun t => (t.a, t.flags, t.cyc)) = some (0x00, zspca 1 0 1 1 1, 7) := by decide
theorem test_V_EMU_3 : (run [0x32, 0x10, 0x00] (placedAt { emu3 with a := 0x99 } 0x0010 [0x5C])).map
    (fun t => (t.flags, t.readByte 0x0010, t.cyc)) = some (zspca 0 0 0 0 0, 0x5C, 13) := by decide
theorem test_V_EMU_3b : (run [0x77] (placedAt { emu3 with a := 0x99, h := 0x08 } 0x0800 [0x5C])).map
    (fun t => (t.readByte 0x0800, t.pc, t.cyc)) = some (0x5C, 0x0101, 7) := by decide
theorem test_V_EMU_3c : (run [0x77] { emu3 with a := 0x99, h := 0x08, l := 0x01 }).map
    (fun t => (t.readByte 0x0801, t.pc, t.cyc)) = some (0x99, 0x0101, 7) := by decide
theorem test_V_L1_1 : (run [0x41] { ex with c := 0x5A }).map
    (fun t => (t.b, t.pc, t.cyc)) = some (0x5A, 0x0101, 5) := by decide
theorem test_V_L1_4 : (run [0x7E] (placedAt { ex16 with h := 0x40 } 0x0000 [0x77])).map
    (fun t => (t.a, t.h, t.cyc)) = some (0x77, 0x00, 7) := by decide
theorem test_V_L1_5 : (run [0x66] (placedAt { ex16 with h := 0xFF, l := 0x10 } 0x0000 [0x77])).map
    (fun t => (t.h, t.l, t.cyc)) = some (0x77, 0x00, 7) := by decide
theorem test_V_L1_6 : (run [0x77] { ex with a := 0x99, h := 0x20, l := 0x01 }).map
    (fun t => (t.readByte 0x2001, t.pc, t.cyc)) = some (0x99, 0x0101, 7) := by decide
theorem test_V_L1_8 : (run [0x74] { ex16 with h := 0x80 }).map
    (fun t => (t.h, t.pc, t.cyc)) = some (0x00, 0x0101, 7) := by decide
theorem test_V_L1_9 : (run [0x16, 0x80] ex).map
    (fun t => (t.d, t.pc, t.cyc)) = some (0x80, 0x0102, 7) := by decide
theorem test_V_L1_11 : (run [0x36, 0x42] { ex16 with h := 0x50 }).map
    (fun t => (t.h, t.pc, t.cyc)) = some (0x00, 0x0102, 10) := by decide
theorem test_V_L1_12 : (run [0x31, 0x00, 0x24] ex).map
    (fun t => (t.sp, t.pc, t.cyc)) = some (0x2400, 0x0103, 10) := by decide
theorem test_V_L1_13 : (run [0x21, 0xCD, 0xAB] ex).map
    (fun t => (t.h, t.l, t.cyc)) = some (0xAB, 0xCD, 10) := by decide
theorem test_V_L1_14 : (run [0x3A, 0x00, 0x20] (placedAt ex 0x2000 [0x5E])).map
    (fun t => (t.a, t.flags, t.cyc)) = some (0x5E, zspca 0 0 0 0 0, 13) := by decide
theorem test_V_L1_15 : faultOf [0x3A, 0x00, 0x40] ex16 =
    some (.memoryOutOfRange 0x4000) := by decide
theorem test_V_L1_17 : faultOf [0x32, 0x00, 0x40] { ex16 with a := 0x99 } =
    some (.memoryOutOfRange 0x4000) := by decide
theorem test_V_L1_18 : (run [0x32, 0x10, 0x40] { exM with a := 0x99 }).map
    (fun t => (t.flags, t.readByte 0x2010, t.cyc)) = some (zspca 0 0 0 0 0, 0x99, 13) := by decide
theorem test_V_L1_19 : (run [0x32, 0x10, 0x40] { exM2 with a := 0x99 }).map
    (fun t => (t.flags, t.readByte 0x1010, t.readByte 0x4010, t.cyc)) = some (zspca 0 0 0 0 0, 0x00, 0x00, 13) := by decide
theorem test_V_L1_20 : (run [0x3A, 0x10, 0x40] (placedAt (placedAt exM 0x2010 [0x11]) 0x4010 [0x22])).map
    (fun t => (t.a, t.flags, t.cyc)) = some (0x22, zspca 0 0 0 0 0, 13) := by decide
theorem test_V_L1_21 : (run [0x2A, 0x00, 0x20] (placedAt ex 0x2000 [0x34, 0x12])).map
    (fun t => (t.h, t.l, t.cyc)) = some (0x12, 0x34, 16) := by decide
theorem test_V_L1_22 : faultOf [0x2A, 0xFF, 0xFF] ex =
    some (.memoryOutOfRange 0x10000) := by decide
theorem test_V_L1_24 : (run [0x22, 0xFF, 0x1F] { ex with h := 0x12, l := 0x34 }).map
    (fun t => (t.readByte 0x2000, t.pc, t.cyc)) = some (0x12, 0x0103, 16) := by decide
theorem test_V_L1_26 : (run [0x1A] (placedAt { ex16 with d := 0xFF, e := 0xFF } 0x0000 [0x31])).map
    (fun t => (t.a, t.d, t.e, t.cyc)) = some (0x31, 0x00, 0x00, 7) := by decide
theorem test_V_L1_27 : (run [0x12] { ex with a := 0xAB, d := 0x20, e := 0x02 }).map
    (fun t => (t.readByte 0x2002, t.pc, t.cyc)) = some (0xAB, 0x0101, 7) := by decide
theorem test_V_L1_29 : (run [0xEB] { ex with d := 0x56, e := 0x78, h := 0x12, l := 0x34 }).map
    (fun t => (t.d, t.e, t.h, t.l, t.cyc)) = some (0x12, 0x34, 0x56, 0x78, 4) := by decide
theorem test_V_A_1 : (run [0x81] { ex with a := 0x6C, c := 0x2E }).map
    (fun t => (t.a, t.flags, t.cyc)) = some (0x9A, zspca 0 1 1 0 1, 4) := by decide
theorem test_V_A_3 : (run [0x86] (placedAt { ex with a := 0x01, h := 0x20 } 0x2000 [0xFF])).map
    (fun t => (t.a, t.flags, t.cyc)) = some (0x00, zspca 1 0 1 1 1, 7) := by decide
theorem test_V_A_5 : (run [0x97] { ex with a := 0x3E }).map
    (fun t => (t.a, t.flags, t.cyc)) = some (0x00, zspca 1 0 1 0 1, 4) := by decide
theorem test_V_A_6 : (run [0xD6, 0x01] ex).map
    (fun t => (t.a, t.flags, t.cyc)) = some (0xFF, zspca 0 1 1 1 0, 7) := by decide
theorem test_V_A_7 : (run [0x88] { ex with a := 0x3D, b := 0x42, flags := zspca 0 0 0 1 0 }).map
    (fun t => (t.a, t.flags, t.cyc)) = some (0x80, zspca 0 1 0 0 1, 4) := by decide
theorem test_V_A_8 : (run [0xCE, 0xFF] { ex with flags := zspca 0 0 0 1 0 }).map
    (fun t => (t.flags, t.pc, t.cyc)) = some (zspca 1 0 1 1 1, 0x0102, 7) := by decide
theorem test_V_A_11 : (run [0x99] { ex with a := 0x04, c := 0x02, flags := zspca 0 0 0 1 0 }).map
    (fun t => (t.a, t.flags, t.cyc)) = some (0x01, zspca 0 0 0 0 1, 4) := by decide
theorem test_V_A_13 : (run [0x9E] (placedAt { ex with h := 0x20, flags := zspca 0 0 0 1 0 } 0x2000 [0xFF])).map
    (fun t => (t.flags, t.pc, t.cyc)) = some (zspca 1 0 1 1 0, 0x0101, 7) := by decide
theorem test_V_A_15 : (run [0x04] { ex with b := 0x7F, flags := zspca 0 0 0 1 0 }).map
    (fun t => (t.b, t.flags, t.cyc)) = some (0x80, zspca 0 1 0 1 1, 5) := by decide
theorem test_V_A_16 : (run [0x34] (placedAt { ex with h := 0x20, flags := zspca 0 0 0 1 0 } 0x2000 [0x0F])).map
    (fun t => (t.flags, t.readByte 0x2000, t.cyc)) = some (zspca 0 0 0 1 1, 0x10, 10) := by decide
theorem test_V_A_17 : (run [0x05] ex).map
    (fun t => (t.b, t.flags, t.cyc)) = some (0xFF, zspca 0 1 1 0 0, 5) := by decide
theorem test_V_A_19 : (run [0x35] (placedAt { ex with h := 0x02 } 0x0200 [0x05])).map
    (fun t => (t.flags, t.pc, t.cyc)) = some (zspca 0 0 0 0 1, 0x0101, 10) := by decide
theorem test_V_A_20 : (run [0x23] { ex with h := 0xFF, l := 0xFF }).map
    (fun t => (t.h, t.l, t.cyc)) = some (0x00, 0x00, 5) := by decide
theorem test_V_A_21 : (run [0x0B] ex).map
    (fun t => (t.b, t.c, t.cyc)) = some (0xFF, 0xFF, 5) := by decide
theorem test_V_A_22 : (run [0x09] { ex with c := 0x01, h := 0xFF, l := 0xFF }).map
    (fun t => (t.h, t.l, t.flags, t.cyc)) = some (0x00, 0x00, zspca 0 0 0 1 0, 10) := by decide
theorem test_V_A_24 : (run [0x29] { ex with h := 0x80, l := 0x01, flags := zspca 1 0 0 0 0 }).map
    (fun t => (t.h, t.l, t.flags, t.cyc)) = some (0x00, 0x02, zspca 1 0 0 1 0, 10) := by decide
theorem test_V_DAA_1 : (run [0x27] { ex with a := 0x9B }).map
    (fun t => (t.a, t.flags, t.cyc)) = some (0x01, zspca 0 0 0 1 1, 4) := by decide
theorem test_V_A_26 : (run [0x27] { ex with flags := zspca 0 0 0 1 1 }).map
    (fun t => (t.a, t.flags, t.cyc)) = some (0x66, zspca 0 0 1 1 0, 4) := by decide
theorem test_V_G_1 : (run [0xA0] { ex with a := 0xFC, b := 0x0F, flags := zspca 0 0 0 1 0 }).map
    (fun t => (t.a, t.flags, t.cyc)) = some (0x0C, zspca 0 0 1 0 1, 4) := by decide
theorem test_V_G_3 : (run [0xA6] (placedAt { ex with a := 0xF0, h := 0x20 } 0x2000 [0x80])).map
    (fun t => (t.a, t.flags, t.cyc)) = some (0x80, zspca 0 1 0 0 0, 7) := by decide
theorem test_V_G_5 : (run [0xEE, 0xFF] { ex with a := 0x0F }).map
    (fun t => (t.a, t.flags, t.cyc)) = some (0xF0, zspca 0 1 1 0 0, 7) := by decide
theorem test_V_G_7 : (run [0xB6] (placedAt { ex with h := 0x20 } 0x2000 [0x81])).map
    (fun t => (t.a, t.flags, t.cyc)) = some (0x81, zspca 0 1 1 0 0, 7) := by decide
theorem test_V_G_11 : (run [0xB9] { ex with a := 0x02, c := 0x05 }).map
    (fun t => (t.flags, t.pc, t.cyc)) = some (zspca 0 1 0 1 0, 0x0101, 4) := by decide
theorem test_V_G_12 : (run [0xFE, 0x01] { ex with a := 0x80 }).map
    (fun t => (t.pc, t.cyc)) = some (0x0102, 7) := by decide
theorem test_V_G_14 : (run [0x07] { ex with a := 0x81 }).map
    (fun t => (t.a, t.flags, t.cyc)) = some (0x03, zspca 0 0 0 1 0, 4) := by decide
theorem test_V_G_15 : (run [0x0F] { ex with a := 0x01 }).map
    (fun t => (t.a, t.flags, t.cyc)) = some (0x80, zspca 0 0 0 1 0, 4) := by decide
theorem test_V_G_17 : (run [0x17] { ex with a := 0x55, flags := zspca 0 0 0 1 0 }).map
    (fun t => (t.a, t.flags, t.cyc)) = some (0xAB, zspca 0 0 0 0 0, 4) := by decide
theorem test_V_G_18 : (run [0x1F] { ex with a := 0x01, flags := zspca 0 0 0 1 0 }).map
    (fun t => (t.a, t.pc, t.cyc)) = some (0x80, 0x0101, 4) := by decide
theorem test_V_G_20 : (run [0x2F] { ex with a := 0x51, flags := zspca 0 1 0 1 0 }).map
    (fun t => (t.a, t.flags, t.cyc)) = some (0xAE, zspca 0 1 0 1 0, 4) := by decide
theorem test_V_G_21 : (run [0x37] ex).map
    (fun t => (t.flags, t.pc, t.cyc)) = some (zspca 0 0 0 1 0, 0x0101, 4) := by decide
theorem test_V_G_22 : (run [0x3F] { ex with flags := zspca 0 0 0 1 0 }).map
    (fun t => (t.flags, t.pc, t.cyc)) = some (zspca 0 0 0 0 0, 0x0101, 4) := by decide
theorem test_V_S_2 : (run [0xD1] (placedAt { ex with sp := 0x23FE } 0x23FE [0x34, 0x12])).map
    (fun t => (t.d, t.e, t.sp, t.cyc)) = some (0x12, 0x34, 0x2400, 10) := by decide
theorem test_V_S_3 : (run [0xF5] { ex with a := 0x55, sp := 0x2400, flags := zspca 1 0 1 1 0 }).map
    (fun t => (t.sp, t.readByte 0x23FE, t.readByte 0x23FF, t.cyc)) = some (0x23FE, 0x47, 0x55, 11) := by decide
theorem test_V_S_5 : (run [0xF1] (placedAt { ex with sp := 0x23FE, flags := zspca 1 1 1 1 1 } 0x23FE [0x00, 0xA5])).map
    (fun t => (t.a, t.sp, t.flags, t.cyc)) = some (0xA5, 0x2400, zspca 0 0 0 0 1, 10) := by decide
theorem test_V_S_7 : (run [0xE5] { ex with h := 0x12, l := 0x34, sp := 0x2000 }).map
    (fun t => (t.sp, t.pc, t.cyc)) = some (0x0000, 0x0101, 11) := by decide
theorem test_V_S_8 : (run [0xE5] { ex with h := 0x12, l := 0x34, sp := 0x2001 }).map
    (fun t => (t.sp, t.readByte 0x2000, t.cyc)) = some (0x1FFF, 0x12, 11) := by decide
theorem test_V_S_9 : faultOf [0xC1] (placedAt { ex with sp := 0xFFFF } 0xFFFF [0x01]) =
    some (.memoryOutOfRange 0x10000) := by decide
theorem test_V_S_11 : (run [0xE3] (placedAt { ex with h := 0x12, l := 0x34, sp := 0x2400 } 0x2400 [0xCD, 0xAB])).map
    (fun t => (t.h, t.l, t.readByte 0x2400, t.readByte 0x2401, t.cyc)) = some (0xAB, 0xCD, 0x34, 0x12, 18) := by decide
theorem test_V_S_12 : (run [0xE3] (placedAt { ex with h := 0x12, l := 0x34, sp := 0x1FFF } 0x1FFF [0xCD, 0xAB])).map
    (fun t => (t.h, t.l, t.readByte 0x2000, t.readByte 0x1FFF, t.cyc)) = some (0xAB, 0xCD, 0x12, 0xCD, 18) := by decide
theorem test_V_S_14 : (run [0xF9] { ex with h := 0x01, sp := 0x2400 }).map
    (fun t => (t.sp, t.pc, t.cyc)) = some (0x0000, 0x0101, 5) := by decide
theorem test_V_B_1 : (run [0xC3, 0x00, 0x30] ex).map
    (fun t => (t.pc, t.pc, t.cyc)) = some (0x3000, 0x3000, 10) := by decide
theorem test_V_B_2 : (run [0xCA, 0x00, 0x30] ex).map
    (fun t => (t.pc, t.cyc)) = some (0x0103, 10) := by decide
theorem test_V_B_10 : (run [0xFA, 0x00, 0x30] { ex with flags := zspca 0 1 0 0 0 }).map
    (fun t => (t.pc, t.pc, t.cyc)) = some (0x3000, 0x3000, 10) := by decide
theorem test_V_B_11 : (run [0xCD, 0x00, 0x30] { ex with sp := 0x2400 }).map
    (fun t => (t.sp, t.pc, t.readByte 0x23FE, t.readByte 0x23FF, t.cyc)) = some (0x23FE, 0x3000, 0x03, 0x01, 17) := by decide
theorem test_V_B_13 : (run [0xDC, 0x00, 0x30] { ex with sp := 0x2400, flags := zspca 0 0 0 1 0 }).map
    (fun t => (t.sp, t.pc, t.readByte 0x23FE, t.readByte 0x23FF, t.cyc)) = some (0x23FE, 0x3000, 0x03, 0x01, 17) := by decide
theorem test_V_B_15 : (run [0xFC, 0x00, 0x30] { ex with sp := 0x2400 }).map
    (fun t => (t.pc, t.cyc)) = some (0x0103, 17) := by decide
theorem test_V_B_16 : (run [0xC9] (placedAt { ex with sp := 0x23FE } 0x23FE [0x03, 0x01])).map
    (fun t => (t.sp, t.pc, t.cyc)) = some (0x2400, 0x0103, 10) := by decide
theorem test_V_B_17 : (run [0xC8] (placedAt { ex with sp := 0x23FE } 0x23FE [0x03, 0x01])).map
    (fun t => (t.pc, t.cyc)) = some (0x0101, 11) := by decide
theorem test_V_B_19 : (run [0xF8] (placedAt { ex with sp := 0x23FE, flags := zspca 0 1 0 0 0 } 0x23FE [0x03, 0x01])).map
    (fun t => (t.sp, t.pc, t.cyc)) = some (0x2400, 0x0103, 11) := by decide
theorem test_V_B_20 : (run [0xFF] { ex with sp := 0x2400 }).map
    (fun t => (t.sp, t.pc, t.readByte 0x23FE, t.readByte 0x23FF, t.cyc)) = some (0x23FE, 0x0038, 0x01, 0x01, 11) := by decide
theorem test_V_B_22 : (run [0xE9] { ex with h := 0xAB, l := 0xCD }).map
    (fun t => (t.pc, t.pc, t.cyc)) = some (0xABCD, 0xABCD, 5) := by decide
theorem test_V_B_23 : (run [0xC3, 0x01, 0x40] ex16).map
    (fun t => (t.pc, t.pc, t.cyc)) = some (0x0000, 0x0000, 10) := by decide
theorem test_V_B_26 : (run [0xC3] (placedAt { ex with pc := 0xFFFF } 0x0000 [0x00, 0x30])).map
    (fun t => (t.pc, t.pc, t.cyc)) = some (0x3000, 0x3000, 10) := by decide
theorem test_V_B_27 : faultOf [0xC9] (placedAt { ex16 with sp := 0x3FFF } 0x3FFF [0x00]) =
    some (.memoryOutOfRange 0x4000) := by decide
theorem test_V_IO_1 : (run [0xDB, 0x01] { ex with flags := zspca 1 0 0 0 0, portAnswers := [0x5A] }).map
    (fun t => (t.a, t.pc, t.cyc)) = some (0x5A, 0x0102, 10) := by decide
theorem test_V_IO_2 : (run [0xD3, 0x03] { ex with a := 0x20 }).map
    (fun t => (t.outTrace, t.pc, t.cyc)) = some ([⟨0x03, 0x20⟩], 0x0102, 10) := by decide
theorem test_V_X_1 : (run [0x00] ex).map
    (fun t => (t.pc, t.cyc)) = some (0x0101, 4) := by decide
theorem test_V_X_2 : (run [0x76] ex).map
    (fun t => (t.status, t.pc, t.cyc)) = some (.halted, 0x0101, 7) := by decide
theorem test_V_X_3 : (run [0xFB] ex).map
    (fun t => (t.ie, t.pc, t.cyc)) = some (true, 0x0101, 4) := by decide
theorem test_V_X_4 : (run [0xF3] { ex with ie := true }).map
    (fun t => (t.ie, t.pc, t.cyc)) = some (false, 0x0101, 4) := by decide
theorem test_V_X_U08 : faultOf [0x08] ex =
    some (.unimplementedOpcode 0x08 0x0100) := by decide
theorem test_V_X_UFD : faultOf [0xFD] ex =
    some (.unimplementedOpcode 0xFD 0x0100) := by decide
theorem test_V_GD_2 : (run [0x31, 0xFF, 0x1F] ex).map
    (fun t => (t.sp, t.pc, t.cyc)) = some (0x1FFF, 0x0103, 10) := by decide
theorem test_V_GD_3 : (run [0x31, 0xFE, 0x1F] ex).map
    (fun t => (t.sp, t.pc, t.cyc)) = some (0x0000, 0x0103, 10) := by decide
theorem test_V_GD_4 : (run [0x31, 0x00, 0x40] ex16).map
    (fun t => (t.sp, t.pc, t.cyc)) = some (0x4000, 0x0103, 10) := by decide
theorem test_V_GD_5 : (run [0x31, 0x01, 0x40] ex16).map
    (fun t => (t.sp, t.pc, t.cyc)) = some (0x0000, 0x0103, 10) := by decide
/-! ## The host's operations: spec/95_test_vectors.md section 3.9 -/

/-- The state of V-I-1 after `set_vector`. -/
def irq (v : IntVector) (sp : Word) : State := { ex with pc := 0x0150, sp := sp, ie := true, ivec := some v }

/-- The fields the vectors show, after one call. -/
def after (o : Result) : Option (Word × Word × Bool × Nat) :=
  match o with
  | .next t => some (t.pc, t.sp, t.ie, t.cyc)
  | .fault _ => none
  | .refused _ => none

theorem test_V_I_1 : after (generateInterrupt (irq .v1 0x2400)) = some (0x0008, 0x23FE, false, 11) := by decide
theorem test_V_I_1_pushes : ∃ t, generateInterrupt (irq .v1 0x2400) = .next t ∧ t.readByte 0x23FF = 0x01 ∧
    t.readByte 0x23FE = 0x50 := ⟨_, rfl, by decide, by decide⟩
theorem test_V_EMU_4 : generateInterrupt { irq .v1 0x2400 with ie := false } = .next { irq .v1 0x2400 with ie := false } := rfl
theorem test_V_I_3 : generateInterrupt { irq .v1 0x2400 with ivec := none } = .refused .vectorUnset := rfl
theorem test_V_I_5 : after (generateInterrupt (irq .v7 0x2000)) = some (0x0038, 0x1FFE, false, 11) := by decide
theorem test_V_I_6 : generateInterrupt { irq .v1 0 with cfg := cfg16 } = .fault (.memoryOutOfRange 0xFFFF) := rfl
theorem test_V_I_8 : setVector 0 ex = .refused (.vectorOutOfRange 0) ∧ setVector 8 ex = .refused (.vectorOutOfRange 8) :=
  ⟨rfl, rfl⟩
theorem test_V_I_4_listed : ∃ t, step { irq .v2 0x2400 with hostCalls := [.generateInterrupt, .step] } = .next t ∧
    t.pc = 0x0010 ∧ t.hostCalls = [.step] := ⟨_, rfl, by decide, rfl⟩
theorem test_fault_status : (afterOperation (placedAt ex 0x0100 [0x08]) (step (placedAt ex 0x0100 [0x08]))).status =
    .faulted (.unimplementedOpcode 0x08 0x0100) := by decide

/-! ## Witnesses: states and operands that meet the hypotheses of each obligation, clause by clause -/

/-- A state with SP in RAM and the flags Z and CY set. -/
def ram : State := { ex with sp := 0x2400, flags := zspca 1 0 0 1 0, h := 0x20, l := 0x10, b := 0x21, d := 0x22, a := 0x99 }
/-- A state whose pairs point past the buffer. -/
def past : State := { ex16 with h := 0x40, b := 0xFF, d := 0x50 }
/-- CALL 3000H at 0x0100. -/
def calling : State := placedAt ram 0x0100 [0xCD, 0x00, 0x30]

theorem ex_inv : ex.Inv := ⟨by decide +kernel, by decide, fun _ hx => (List.not_mem_nil hx).elim, by decide⟩
theorem cfg_wf : exConfig.wf := test_wf_ex

theorem witness_Construction : imagesWf exConfig.memSize [{ offset := 0, bytes := [0xFF, 0xFE] }, { offset := 2, bytes := [1] },
      { offset := 0xFFFF, bytes := [0x76] }] ∧
    (State.construct exConfig zeroRegs [{ offset := 0, bytes := [0xFF, 0xFE] }, { offset := 0xFFFF, bytes := [0x76] }]).readByte
      0xFFFF = 0x76 := by decide
theorem witness_StepKeeps : ex.Inv ∧ ∃ t, step ex = .next t := ⟨ex_inv, _, rfl⟩
theorem witness_StepRuns : calling.status = .running ∧ calling.hostCalls = [] ∧
    decode [0xCD, 0x00, 0x30] = .ok (.call 0x3000, []) ∧ calling.BytesAtPc [0xCD, 0x00, 0x30] calling.pc :=
  ⟨rfl, rfl, rfl, by simp only [State.BytesAtPc]; decide⟩
theorem witness_StepRuns_wraps : State.BytesAtPc (placedAt { ex with pc := 0xFFFF } 0xFFFF [0x3E]) [0x3E, 0x00] 0xFFFF := by
  simp only [State.BytesAtPc]; decide
theorem witness_StepPerforms : ex.hostCalls = [] ∧ { ex with hostCalls := [.step] }.hostCalls = .step :: [] ∧
    { ex with hostCalls := [.setVector 3] }.hostCalls = .setVector 3 :: [] ∧
    { ex with hostCalls := [.generateInterrupt] }.hostCalls = .generateInterrupt :: [] := ⟨rfl, rfl, rfl, rfl⟩
theorem witness_FetchOutside_opcode : ({ ex16 with pc := 0x4000 }).cfg.memSize ≤ ({ ex16 with pc := 0x4000 }).pc.toNat ∧
    ex16.status = .running ∧ ex16.hostCalls = [] := by decide
theorem witness_FetchOutside_byte2 : let s := placedAt { ex16 with pc := 0x3FFF } 0x3FFF [0x3E]
    s.pc.toNat < s.cfg.memSize ∧ 2 ≤ opLength (s.readByte s.pc.toNat) ∧ s.cfg.memSize ≤ (s.pc + 1).toNat := by decide
theorem witness_FetchOutside_byte3 : let s := placedAt { ex16 with pc := 0x3FFE } 0x3FFE [0xC3]
    opLength (s.readByte s.pc.toNat) = 3 ∧ (s.pc + 1).toNat < s.cfg.memSize ∧ s.cfg.memSize ≤ (s.pc + 2).toNat := by decide
theorem witness_NothingIsAdmitted : { ex with status := .halted }.status ≠ .running ∧
    { ex with status := .faulted (.memoryOutOfRange 0x4000) }.status ≠ .running := by decide
theorem witness_FaultsAreTerminal : ∃ r, step { ex16 with pc := 0x4000 } = .fault r := ⟨_, rfl⟩
theorem witness_CompletedStep : ∃ t, stepInstr ram = .next t := ⟨_, rfl⟩
theorem witness_Guards : ∃ t, stepInstr { ex16 with sp := 0x4001 } = .next t := ⟨_, rfl⟩
theorem witness_SetVector : ex.status = .running ∧ (1 ≤ 1 ∧ 1 ≤ 7) ∧ (1 ≤ 7 ∧ 7 ≤ 7) ∧ ¬ (1 ≤ 0 ∧ 0 ≤ 7) ∧ ¬ (1 ≤ 8 ∧ 8 ≤ 7) := by
  decide
theorem witness_GenerateInterrupt : let s := irq .v1 0x2400
    s.status = .running ∧ Memory.wf s.mem ∧ s.ie = true ∧ s.ivec = some .v1 ∧ s.Pushable ∧ ex.ie = false ∧
    { s with ivec := none }.ivec = none := by decide
theorem witness_GenerateInterrupt_faults : let s := { irq .v1 0x4001 with cfg := cfg16 }
    let u := { irq .v1 0 with cfg := { cfg16 with mirrorLo := 0xFFFF, mirrorHi := 0xFFFF, mirrorOffset := 0xF000 } }
    ¬ s.Writable ((s.sp - 2).toNat + 1) ∧ u.Writable ((u.sp - 2).toNat + 1) ∧ ¬ u.Writable (u.sp - 2).toNat := by decide
theorem witness_RetResumes : let s := irq .v1 0x2002
    s.status = .running ∧ s.ie = true ∧ s.ivec = some .v1 ∧ s.cfg.wf ∧ Memory.wf s.mem ∧
    s.cfg.romBoundary + 2 < s.sp.toNat ∧ s.sp.toNat ≤ s.cfg.memSize ∧ ¬ s.Mirrored (s.sp.toNat - 2) ∧
    ¬ s.Mirrored (s.sp.toNat - 1) := ⟨rfl, rfl, rfl, cfg_wf, by decide, by decide, by decide, by decide, by decide⟩
theorem witness_EncodeOfDecode : decode [0x3E, 0x5A, 0x76] = .ok (.mviA 0x5A, [0x76]) := rfl
theorem witness_OpcodesWithoutAHandler : let s := placedAt ex 0x0100 [0xFD]
    s.status = .running ∧ s.pc.toNat < s.cfg.memSize ∧ s.readByte s.pc.toNat = BadOpcode.byte .oFD := by decide
theorem witness_Writes : Memory.wf exM.mem ∧ exM.remap 0x4000 = 0x2000 ∧ exM.remap 0x3FFF = 0x3FFF ∧
    exM.remap 0x1FFF ≤ exM.cfg.romBoundary ∧ exM.cfg.romBoundary < exM.remap 0x2000 ∧ exM.remap 0xFFFF < exM.cfg.memSize ∧
    ex16.cfg.memSize ≤ ex16.remap 0x4000 := by decide
theorem witness_Resolver : past.cfg.memSize ≤ (past.pair .hl).toNat ∧ (ex16.pair .hl).toNat < ex16.cfg.memSize ∧
    ex.cfg.memSize = 65536 := by decide
theorem witness_Protected : (∃ t, step calling = .next t) ∧ 0x1FFF ≤ calling.cfg.romBoundary := ⟨⟨_, rfl⟩, by decide⟩
theorem witness_IndirectLoads : 0 < past.cfg.memSize ∧ 0 < ram.cfg.memSize := by decide
theorem witness_IndirectStores : Memory.wf ram.mem ∧ (ram.resolvePair .hl).2.reg .a = 0x99 := by decide
theorem witness_DirectLoads : (0x3FFF : Word).toNat < ex16.cfg.memSize ∧ (0x3FFE : Word).toNat + 1 < ex16.cfg.memSize ∧
    ex16.cfg.memSize ≤ (0x4000 : Word).toNat ∧ (0x3FFF : Word).toNat + 1 = ex16.cfg.memSize := by decide
theorem witness_DirectStores : Memory.wf ex16.mem ∧ ex16.Writable 0x3FFE ∧ ex16.Writable 0x3FFF ∧ ¬ ex16.Writable 0x4000 := by
  decide
theorem witness_AluMemory : 0 < past.cfg.memSize := by decide
theorem witness_CompareSets : Instr.alu .cmp .m = .cmpM ∧ Instr.alu .sub .m = .subM ∧ Instr.aluI .cmp 1 = .cpi 1 ∧
    Instr.aluI .sub 1 = .sui 1 ∧ 0 < ex.cfg.memSize := ⟨rfl, rfl, rfl, rfl, by decide⟩
theorem witness_MemoryIncrement : Memory.wf ram.mem ∧ 0 < ram.cfg.memSize := by decide
theorem witness_DecimalAddition : let s := { ex with a := 0x99, b := 0x99, c := 0x00 }
    s.a = bcd 99 ∧ s.reg .b = bcd 99 ∧ s.reg .c = bcd 0 ∧ s.flags.cy = false ∧ 0 < s.cfg.memSize ∧
    s.readByte (s.resolvePair .hl).1 = bcd 0 := by decide
theorem witness_PushStores : Memory.wf ram.mem ∧ ram.Pushable ∧ ram.cfg.psw.wf := by decide
theorem witness_PopLoads : State.Poppable { ex with sp := 0xFFFE } := by decide
/-- PUSH D, POP D at 0x0100, and PUSH PSW, POP PSW, from a given SP. -/
def pushPop (sp : Word) : State := placedAt { ram with sp := sp } 0x0100 [0xD5, 0xD1]
def pushPopPsw (sp : Word) : State := placedAt { ram with sp := sp } 0x0100 [0xF5, 0xF1]
theorem witness_PushThenPop : let s := pushPop 0x2002
    s.cfg.wf ∧ Memory.wf s.mem ∧ s.status = .running ∧ s.cfg.romBoundary + 2 < s.sp.toNat ∧ s.sp.toNat ≤ s.cfg.memSize ∧
    ¬ s.Mirrored (s.sp.toNat - 2) ∧ ¬ s.Mirrored (s.sp.toNat - 1) ∧ s.BytesAtPc (encode (.push .de)) s.pc ∧
    ∃ t, stepInstr s = .next t ∧ t.BytesAtPc (encode (.pop .de)) t.pc :=
  ⟨cfg_wf, by decide, rfl, by decide, by decide, by decide, by decide,
    by show State.BytesAtPc _ [0xD5] _; simp only [State.BytesAtPc]; decide, _, rfl,
    by show State.BytesAtPc _ [0xD1] _; simp only [State.BytesAtPc]; decide⟩
theorem witness_PushThenPop_guarded : let s := pushPop 0x2000
    s.cfg.wf ∧ Memory.wf s.mem ∧ s.status = .running ∧ 2 ≤ s.sp.toNat ∧ s.sp.toNat ≤ s.cfg.romBoundary + 1 ∧
    s.BytesAtPc (encode (.push .de)) s.pc ∧ ∃ t, stepInstr s = .next t ∧ t.BytesAtPc (encode (.pop .de)) t.pc :=
  ⟨cfg_wf, by decide, rfl, by decide, by decide,
    by show State.BytesAtPc _ [0xD5] _; simp only [State.BytesAtPc]; decide, _, rfl,
    by show State.BytesAtPc _ [0xD1] _; simp only [State.BytesAtPc]; decide⟩
theorem witness_PushThenPop_boundary : let s := pushPopPsw 0x2001
    s.cfg.wf ∧ Memory.wf s.mem ∧ s.status = .running ∧ s.sp.toNat = s.cfg.romBoundary + 2 ∧
    s.sp.toNat ≤ s.cfg.memSize ∧ ¬ s.Mirrored (s.sp.toNat - 1) ∧ s.BytesAtPc (encode .pushPSW) s.pc ∧
    ∃ t, stepInstr s = .next t ∧ t.BytesAtPc (encode .popPSW) t.pc :=
  ⟨cfg_wf, by decide, rfl, by decide, by decide, by decide,
    by show State.BytesAtPc _ [0xF5] _; simp only [State.BytesAtPc]; decide, _, rfl,
    by show State.BytesAtPc _ [0xF1] _; simp only [State.BytesAtPc]; decide⟩
theorem witness_ExchangeTop : Memory.wf exM.mem ∧ State.Poppable { exM with sp := 0x4000 } := by decide
theorem witness_PushesOutside : let s := { ex16 with sp := 0x4001, flags := zspca 1 0 0 0 0 }
    let u := { s with sp := 0, cfg := { cfg16 with mirrorLo := 0xFFFF, mirrorHi := 0xFFFF, mirrorOffset := 0xF000 } }
    ¬ s.Writable ((s.sp - 2).toNat + 1) ∧ (u.Writable ((u.sp - 2).toNat + 1) ∧ ¬ u.Writable (u.sp - 2).toNat) := by decide
theorem witness_PopsOutside : ex16.cfg.memSize ≤ (0x4000 : Word).toNat ∧ (0x3FFF : Word).toNat + 1 = ex16.cfg.memSize := by
  decide
theorem witness_conditions : CondTrue ram.flags .z ∧ ¬ CondTrue ram.flags .nz ∧ CondTrue ram.flags .c ∧
    ¬ CondTrue ram.flags .nc ∧ CondTrue ram.flags .po ∧ ¬ CondTrue ram.flags .pe ∧ CondTrue ram.flags .p ∧
    ¬ CondTrue ram.flags .m := by simp [CondTrue, ram, zspca]
theorem witness_Jumps : CondTrue ram.flags .z ∧ ¬ CondTrue ram.flags .m :=
  ⟨witness_conditions.1, witness_conditions.2.2.2.2.2.2.2⟩
theorem witness_Calls : Memory.wf ram.mem ∧ ram.Pushable ∧ CondTrue ram.flags .z ∧ ¬ CondTrue ram.flags .nz :=
  ⟨by decide, by decide, witness_conditions.1, witness_conditions.2.1⟩
theorem witness_Returns : ram.Poppable ∧ CondTrue ram.flags .z ∧ ¬ CondTrue ram.flags .nz :=
  ⟨by decide, witness_conditions.1, witness_conditions.2.1⟩
theorem witness_CallReturn : calling.cfg.wf ∧ Memory.wf calling.mem ∧ calling.hostCalls = [] ∧ calling.status = .running ∧
    calling.BytesAtPc (encode (.call 0x3000)) calling.pc ∧ calling.cfg.romBoundary + 2 < calling.sp.toNat ∧
    calling.sp.toNat ≤ calling.cfg.memSize ∧ ¬ calling.Mirrored (calling.sp.toNat - 2) ∧
    ¬ calling.Mirrored (calling.sp.toNat - 1) ∧ (0x3000 : Word).toNat ≤ calling.cfg.memSize :=
  ⟨cfg_wf, by decide, rfl, rfl, by show calling.BytesAtPc [0xCD, 0x00, 0x30] _; simp only [State.BytesAtPc]; decide,
    by decide, by decide, by decide, by decide, by decide⟩
/-- A later state that meets the inner premises of the call/return law: a RET at 0x3000. -/
theorem witness_CallReturn_later : ∃ t, step calling = .next t ∧ t.pc = 0x3000 ∧ t.status = .running ∧ t.hostCalls = [] ∧
    State.BytesAtPc (placedAt t 0x3000 [0xC9]) (encode .ret) 0x3000 :=
  ⟨_, rfl, by decide, rfl, rfl, by show State.BytesAtPc _ [0xC9] _; simp only [State.BytesAtPc]; decide⟩
theorem witness_Input : { ex with portAnswers := [0x5A] }.portAnswers = 0x5A :: [] ∧ ex.portAnswers = [] := ⟨rfl, rfl⟩
theorem witness_WriteFlags : (∀ o x, Instr.nop ≠ .alu o x) ∧ (∀ r, Instr.nop ≠ .inrR r) ∧ (∀ p, Instr.nop ≠ .dad p) ∧
    ∃ t, exec .nop ex = .next t :=
  ⟨fun o x => by cases o <;> rcases x with r | _ <;> (try cases r) <;> exact nofun,
    fun r => by cases r <;> exact nofun, fun p => by cases p <;> exact nofun, _, rfl⟩
theorem witness_ControlState : (∃ t, exec .nop ex = .next t) ∧ Instr.nop ≠ .hlt ∧ Instr.nop ≠ .ei ∧ Instr.nop ≠ .di ∧
    (∀ p, Instr.nop ≠ .out p) ∧ ∀ p, Instr.nop ≠ .inp p := ⟨⟨_, rfl⟩, nofun, nofun, nofun, nofun, nofun⟩
theorem witness_SpOrMemory : (∃ t, exec .daa ex = .next t) ∧ Instr.daa ≠ .sphl ∧ (∀ p, Instr.daa ≠ .push p) ∧
    ∀ r, Instr.daa ≠ .movMR r :=
  ⟨⟨_, rfl⟩, nofun, fun p => by cases p <;> exact nofun, fun r => by cases r <;> exact nofun⟩
theorem witness_ReadsAc : Instr.adcB ≠ .daa := nofun
theorem witness_ReadsInterruptState : (Instr.adcB ≠ .ei ∧ Instr.adcB ≠ .di) ∧ (Instr.di = .ei ∨ Instr.di = .di) :=
  ⟨⟨nofun, nofun⟩, .inr rfl⟩

end Sys2Proof.Tests
end

section
/-! The forms of the instructions: the 256 rows of the opcode table are 51 operations over named operand classes
(spec/30_encoding.md R302 to R305), so a rule about every instruction is a case split over these forms. -/

namespace Sys2Proof.Machine

/-- The operation that gives an instruction its meaning, one constructor per form of instruction. -/
inductive Meaning : Instr → (State → Except Fault State) → Prop
  | nop : Meaning .nop .ok
  | movRR (dst src : Reg) : Meaning (.movRR dst src) (movRR dst src)
  | movRM (dst : Reg) : Meaning (.movRM dst) (movRM dst)
  | movMR (src : Reg) : Meaning (.movMR src) (movMR src)
  | mviR (dst : Reg) (v : Byte) : Meaning (.mviR dst v) (mviR dst v)
  | mviM (v : Byte) : Meaning (.mviM v) (mviM v)
  | lxi (p : Rp) (w : Word) : Meaning (.lxi p w) (lxiRp p w)
  | lda (w : Word) : Meaning (.lda w) (loadDirect w)
  | sta (w : Word) : Meaning (.sta w) (storeDirect w)
  | lhld (w : Word) : Meaning (.lhld w) (loadHLDirect w)
  | shld (w : Word) : Meaning (.shld w) (storeHLDirect w)
  | ldax (p : IdxPair) : Meaning (.ldax p) (loadIndirect p)
  | stax (p : IdxPair) : Meaning (.stax p) (storeIndirect p)
  | xchg : Meaning .xchg exchangeDeHl
  | alu (o : AluOp) (x : Src) : Meaning (.alu o x) (aluSrc o x)
  | aluI (o : AluOp) (v : Byte) : Meaning (.aluI o v) (aluImm o v)
  | inrR (dst : Reg) : Meaning (.inrR dst) (incReg dst)
  | inrM : Meaning .inrM incM
  | dcrR (dst : Reg) : Meaning (.dcrR dst) (decReg dst)
  | dcrM : Meaning .dcrM decM
  | inx (p : Rp) : Meaning (.inx p) (incRp p)
  | dcx (p : Rp) : Meaning (.dcx p) (decRp p)
  | dad (p : Rp) : Meaning (.dad p) (addRp p)
  | daa : Meaning .daa adjustDecimal
  | rlc : Meaning .rlc rotateLeft
  | rrc : Meaning .rrc rotateRight
  | ral : Meaning .ral rotateLeftCarry
  | rar : Meaning .rar rotateRightCarry
  | cma : Meaning .cma complementA
  | stc : Meaning .stc setCarry
  | cmc : Meaning .cmc complementCarry
  | push (p : Pair) : Meaning (.push p) (pushPair p)
  | pushPSW : Meaning .pushPSW pushPsw
  | pop (p : Pair) : Meaning (.pop p) (popPair p)
  | popPSW : Meaning .popPSW popPsw
  | xthl : Meaning .xthl exchangeTop
  | sphl : Meaning .sphl loadSpFromHl
  | jmp (w : Word) : Meaning (.jmp w) (jump w)
  | pchl : Meaning .pchl jumpToHl
  | jcc (cc : Cond) (w : Word) : Meaning (.jcc cc w) (jumpIf cc w)
  | call (w : Word) : Meaning (.call w) (callTo w)
  | ccc (cc : Cond) (w : Word) : Meaning (.ccc cc w) (callIf cc w)
  | rst (n : RstNum) : Meaning (.rst n) (State.enterVector · (rstNumber n))
  | ret : Meaning .ret State.returnFrom
  | rcc (cc : Cond) : Meaning (.rcc cc) (returnIf cc)
  | inp (p : Byte) : Meaning (.inp p) (inputPort p)
  | out (p : Byte) : Meaning (.out p) (outputPort p)
  | hlt : Meaning .hlt halt
  | ei : Meaning .ei (setIe true)
  | di : Meaning .di (setIe false)
  | unimpl (o : BadOpcode) : Meaning (.unimpl o) (raiseUnimplemented o.byte)

/-- R308, R412: every instruction is of one of the forms. -/
theorem exists_meaning : ∀ i : Instr, ∃ op, Meaning i op
  | .nop => ⟨_, .nop⟩
  | .movBB => ⟨_, .movRR .b .b⟩ | .movBC => ⟨_, .movRR .b .c⟩ | .movBD => ⟨_, .movRR .b .d⟩
  | .movBE => ⟨_, .movRR .b .e⟩ | .movBH => ⟨_, .movRR .b .h⟩ | .movBL => ⟨_, .movRR .b .l⟩
  | .movBA => ⟨_, .movRR .b .a⟩ | .movCB => ⟨_, .movRR .c .b⟩ | .movCC => ⟨_, .movRR .c .c⟩
  | .movCD => ⟨_, .movRR .c .d⟩ | .movCE => ⟨_, .movRR .c .e⟩ | .movCH => ⟨_, .movRR .c .h⟩
  | .movCL => ⟨_, .movRR .c .l⟩ | .movCA => ⟨_, .movRR .c .a⟩ | .movDB => ⟨_, .movRR .d .b⟩
  | .movDC => ⟨_, .movRR .d .c⟩ | .movDD => ⟨_, .movRR .d .d⟩ | .movDE => ⟨_, .movRR .d .e⟩
  | .movDH => ⟨_, .movRR .d .h⟩ | .movDL => ⟨_, .movRR .d .l⟩ | .movDA => ⟨_, .movRR .d .a⟩
  | .movEB => ⟨_, .movRR .e .b⟩ | .movEC => ⟨_, .movRR .e .c⟩ | .movED => ⟨_, .movRR .e .d⟩
  | .movEE => ⟨_, .movRR .e .e⟩ | .movEH => ⟨_, .movRR .e .h⟩ | .movEL => ⟨_, .movRR .e .l⟩
  | .movEA => ⟨_, .movRR .e .a⟩ | .movHB => ⟨_, .movRR .h .b⟩ | .movHC => ⟨_, .movRR .h .c⟩
  | .movHD => ⟨_, .movRR .h .d⟩ | .movHE => ⟨_, .movRR .h .e⟩ | .movHH => ⟨_, .movRR .h .h⟩
  | .movHL => ⟨_, .movRR .h .l⟩ | .movHA => ⟨_, .movRR .h .a⟩ | .movLB => ⟨_, .movRR .l .b⟩
  | .movLC => ⟨_, .movRR .l .c⟩ | .movLD => ⟨_, .movRR .l .d⟩ | .movLE => ⟨_, .movRR .l .e⟩
  | .movLH => ⟨_, .movRR .l .h⟩ | .movLL => ⟨_, .movRR .l .l⟩ | .movLA => ⟨_, .movRR .l .a⟩
  | .movAB => ⟨_, .movRR .a .b⟩ | .movAC => ⟨_, .movRR .a .c⟩ | .movAD => ⟨_, .movRR .a .d⟩
  | .movAE => ⟨_, .movRR .a .e⟩ | .movAH => ⟨_, .movRR .a .h⟩ | .movAL => ⟨_, .movRR .a .l⟩
  | .movAA => ⟨_, .movRR .a .a⟩
  | .movBM => ⟨_, .movRM .b⟩ | .movCM => ⟨_, .movRM .c⟩ | .movDM => ⟨_, .movRM .d⟩ | .movEM => ⟨_, .movRM .e⟩
  | .movHM => ⟨_, .movRM .h⟩ | .movLM => ⟨_, .movRM .l⟩ | .movAM => ⟨_, .movRM .a⟩
  | .movMB => ⟨_, .movMR .b⟩ | .movMC => ⟨_, .movMR .c⟩ | .movMD => ⟨_, .movMR .d⟩ | .movME => ⟨_, .movMR .e⟩
  | .movMH => ⟨_, .movMR .h⟩ | .movML => ⟨_, .movMR .l⟩ | .movMA => ⟨_, .movMR .a⟩
  | .mviB _ => ⟨_, .mviR .b _⟩ | .mviC _ => ⟨_, .mviR .c _⟩ | .mviD _ => ⟨_, .mviR .d _⟩
  | .mviE _ => ⟨_, .mviR .e _⟩ | .mviH _ => ⟨_, .mviR .h _⟩ | .mviL _ => ⟨_, .mviR .l _⟩
  | .mviA _ => ⟨_, .mviR .a _⟩ | .mviM _ => ⟨_, .mviM _⟩
  | .lxiB _ => ⟨_, .lxi .bc _⟩ | .lxiD _ => ⟨_, .lxi .de _⟩ | .lxiH _ => ⟨_, .lxi .hl _⟩
  | .lxiSP _ => ⟨_, .lxi .sp _⟩
  | .lda _ => ⟨_, .lda _⟩ | .sta _ => ⟨_, .sta _⟩ | .lhld _ => ⟨_, .lhld _⟩ | .shld _ => ⟨_, .shld _⟩
  | .ldaxB => ⟨_, .ldax .bc⟩ | .ldaxD => ⟨_, .ldax .de⟩ | .staxB => ⟨_, .stax .bc⟩ | .staxD => ⟨_, .stax .de⟩
  | .xchg => ⟨_, .xchg⟩
  | .addB => ⟨_, .alu .add (.reg .b)⟩ | .addC => ⟨_, .alu .add (.reg .c)⟩ | .addD => ⟨_, .alu .add (.reg .d)⟩
  | .addE => ⟨_, .alu .add (.reg .e)⟩ | .addH => ⟨_, .alu .add (.reg .h)⟩ | .addL => ⟨_, .alu .add (.reg .l)⟩
  | .addM => ⟨_, .alu .add .m⟩ | .addA => ⟨_, .alu .add (.reg .a)⟩ | .adcB => ⟨_, .alu .adc (.reg .b)⟩
  | .adcC => ⟨_, .alu .adc (.reg .c)⟩ | .adcD => ⟨_, .alu .adc (.reg .d)⟩ | .adcE => ⟨_, .alu .adc (.reg .e)⟩
  | .adcH => ⟨_, .alu .adc (.reg .h)⟩ | .adcL => ⟨_, .alu .adc (.reg .l)⟩ | .adcM => ⟨_, .alu .adc .m⟩
  | .adcA => ⟨_, .alu .adc (.reg .a)⟩ | .subB => ⟨_, .alu .sub (.reg .b)⟩ | .subC => ⟨_, .alu .sub (.reg .c)⟩
  | .subD => ⟨_, .alu .sub (.reg .d)⟩ | .subE => ⟨_, .alu .sub (.reg .e)⟩ | .subH => ⟨_, .alu .sub (.reg .h)⟩
  | .subL => ⟨_, .alu .sub (.reg .l)⟩ | .subM => ⟨_, .alu .sub .m⟩ | .subA => ⟨_, .alu .sub (.reg .a)⟩
  | .sbbB => ⟨_, .alu .sbb (.reg .b)⟩ | .sbbC => ⟨_, .alu .sbb (.reg .c)⟩ | .sbbD => ⟨_, .alu .sbb (.reg .d)⟩
  | .sbbE => ⟨_, .alu .sbb (.reg .e)⟩ | .sbbH => ⟨_, .alu .sbb (.reg .h)⟩ | .sbbL => ⟨_, .alu .sbb (.reg .l)⟩
  | .sbbM => ⟨_, .alu .sbb .m⟩ | .sbbA => ⟨_, .alu .sbb (.reg .a)⟩ | .anaB => ⟨_, .alu .ana (.reg .b)⟩
  | .anaC => ⟨_, .alu .ana (.reg .c)⟩ | .anaD => ⟨_, .alu .ana (.reg .d)⟩ | .anaE => ⟨_, .alu .ana (.reg .e)⟩
  | .anaH => ⟨_, .alu .ana (.reg .h)⟩ | .anaL => ⟨_, .alu .ana (.reg .l)⟩ | .anaM => ⟨_, .alu .ana .m⟩
  | .anaA => ⟨_, .alu .ana (.reg .a)⟩ | .xraB => ⟨_, .alu .xra (.reg .b)⟩ | .xraC => ⟨_, .alu .xra (.reg .c)⟩
  | .xraD => ⟨_, .alu .xra (.reg .d)⟩ | .xraE => ⟨_, .alu .xra (.reg .e)⟩ | .xraH => ⟨_, .alu .xra (.reg .h)⟩
  | .xraL => ⟨_, .alu .xra (.reg .l)⟩ | .xraM => ⟨_, .alu .xra .m⟩ | .xraA => ⟨_, .alu .xra (.reg .a)⟩
  | .oraB => ⟨_, .alu .ora (.reg .b)⟩ | .oraC => ⟨_, .alu .ora (.reg .c)⟩ | .oraD => ⟨_, .alu .ora (.reg .d)⟩
  | .oraE => ⟨_, .alu .ora (.reg .e)⟩ | .oraH => ⟨_, .alu .ora (.reg .h)⟩ | .oraL => ⟨_, .alu .ora (.reg .l)⟩
  | .oraM => ⟨_, .alu .ora .m⟩ | .oraA => ⟨_, .alu .ora (.reg .a)⟩ | .cmpB => ⟨_, .alu .cmp (.reg .b)⟩
  | .cmpC => ⟨_, .alu .cmp (.reg .c)⟩ | .cmpD => ⟨_, .alu .cmp (.reg .d)⟩ | .cmpE => ⟨_, .alu .cmp (.reg .e)⟩
  | .cmpH => ⟨_, .alu .cmp (.reg .h)⟩ | .cmpL => ⟨_, .alu .cmp (.reg .l)⟩ | .cmpM => ⟨_, .alu .cmp .m⟩
  | .cmpA => ⟨_, .alu .cmp (.reg .a)⟩
  | .adi _ => ⟨_, .aluI .add _⟩ | .aci _ => ⟨_, .aluI .adc _⟩ | .sui _ => ⟨_, .aluI .sub _⟩
  | .sbi _ => ⟨_, .aluI .sbb _⟩ | .ani _ => ⟨_, .aluI .ana _⟩ | .xri _ => ⟨_, .aluI .xra _⟩
  | .ori _ => ⟨_, .aluI .ora _⟩ | .cpi _ => ⟨_, .aluI .cmp _⟩
  | .inrB => ⟨_, .inrR .b⟩ | .inrC => ⟨_, .inrR .c⟩ | .inrD => ⟨_, .inrR .d⟩ | .inrE => ⟨_, .inrR .e⟩
  | .inrH => ⟨_, .inrR .h⟩ | .inrL => ⟨_, .inrR .l⟩ | .inrA => ⟨_, .inrR .a⟩ | .inrM => ⟨_, .inrM⟩
  | .dcrB => ⟨_, .dcrR .b⟩ | .dcrC => ⟨_, .dcrR .c⟩ | .dcrD => ⟨_, .dcrR .d⟩ | .dcrE => ⟨_, .dcrR .e⟩
  | .dcrH => ⟨_, .dcrR .h⟩ | .dcrL => ⟨_, .dcrR .l⟩ | .dcrA => ⟨_, .dcrR .a⟩ | .dcrM => ⟨_, .dcrM⟩
  | .inxB => ⟨_, .inx .bc⟩ | .inxD => ⟨_, .inx .de⟩ | .inxH => ⟨_, .inx .hl⟩ | .inxSP => ⟨_, .inx .sp⟩
  | .dcxB => ⟨_, .dcx .bc⟩ | .dcxD => ⟨_, .dcx .de⟩ | .dcxH => ⟨_, .dcx .hl⟩ | .dcxSP => ⟨_, .dcx .sp⟩
  | .dadB => ⟨_, .dad .bc⟩ | .dadD => ⟨_, .dad .de⟩ | .dadH => ⟨_, .dad .hl⟩ | .dadSP => ⟨_, .dad .sp⟩
  | .daa => ⟨_, .daa⟩
  | .rlc => ⟨_, .rlc⟩ | .rrc => ⟨_, .rrc⟩ | .ral => ⟨_, .ral⟩ | .rar => ⟨_, .rar⟩ | .cma => ⟨_, .cma⟩
  | .stc => ⟨_, .stc⟩ | .cmc => ⟨_, .cmc⟩
  | .pushB => ⟨_, .push .bc⟩ | .pushD => ⟨_, .push .de⟩ | .pushH => ⟨_, .push .hl⟩ | .pushPSW => ⟨_, .pushPSW⟩
  | .popB => ⟨_, .pop .bc⟩ | .popD => ⟨_, .pop .de⟩ | .popH => ⟨_, .pop .hl⟩ | .popPSW => ⟨_, .popPSW⟩
  | .xthl => ⟨_, .xthl⟩ | .sphl => ⟨_, .sphl⟩
  | .jmp _ => ⟨_, .jmp _⟩ | .pchl => ⟨_, .pchl⟩
  | .jnz _ => ⟨_, .jcc .nz _⟩ | .jz _ => ⟨_, .jcc .z _⟩ | .jnc _ => ⟨_, .jcc .nc _⟩ | .jc _ => ⟨_, .jcc .c _⟩
  | .jpo _ => ⟨_, .jcc .po _⟩ | .jpe _ => ⟨_, .jcc .pe _⟩ | .jp _ => ⟨_, .jcc .p _⟩ | .jm _ => ⟨_, .jcc .m _⟩
  | .call _ => ⟨_, .call _⟩
  | .cnz _ => ⟨_, .ccc .nz _⟩ | .cz _ => ⟨_, .ccc .z _⟩ | .cnc _ => ⟨_, .ccc .nc _⟩ | .cc _ => ⟨_, .ccc .c _⟩
  | .cpo _ => ⟨_, .ccc .po _⟩ | .cpe _ => ⟨_, .ccc .pe _⟩ | .cp _ => ⟨_, .ccc .p _⟩ | .cm _ => ⟨_, .ccc .m _⟩
  | .rst0 => ⟨_, .rst .n0⟩ | .rst1 => ⟨_, .rst .n1⟩ | .rst2 => ⟨_, .rst .n2⟩ | .rst3 => ⟨_, .rst .n3⟩
  | .rst4 => ⟨_, .rst .n4⟩ | .rst5 => ⟨_, .rst .n5⟩ | .rst6 => ⟨_, .rst .n6⟩ | .rst7 => ⟨_, .rst .n7⟩
  | .ret => ⟨_, .ret⟩
  | .rnz => ⟨_, .rcc .nz⟩ | .rz => ⟨_, .rcc .z⟩ | .rnc => ⟨_, .rcc .nc⟩ | .rc => ⟨_, .rcc .c⟩
  | .rpo => ⟨_, .rcc .po⟩ | .rpe => ⟨_, .rcc .pe⟩ | .rp => ⟨_, .rcc .p⟩ | .rm => ⟨_, .rcc .m⟩
  | .inp _ => ⟨_, .inp _⟩ | .out _ => ⟨_, .out _⟩ | .hlt => ⟨_, .hlt⟩ | .ei => ⟨_, .ei⟩ | .di => ⟨_, .di⟩
  | .unimpl08 => ⟨_, .unimpl .o08⟩ | .unimpl10 => ⟨_, .unimpl .o10⟩ | .unimpl18 => ⟨_, .unimpl .o18⟩
  | .unimpl20 => ⟨_, .unimpl .o20⟩ | .unimpl28 => ⟨_, .unimpl .o28⟩ | .unimpl30 => ⟨_, .unimpl .o30⟩
  | .unimpl38 => ⟨_, .unimpl .o38⟩ | .unimplCB => ⟨_, .unimpl .oCB⟩ | .unimplD9 => ⟨_, .unimpl .oD9⟩
  | .unimplDD => ⟨_, .unimpl .oDD⟩ | .unimplED => ⟨_, .unimpl .oED⟩ | .unimplFD => ⟨_, .unimpl .oFD⟩

/-- The dispatcher runs the operation of the instruction's form (R412). -/
theorem Meaning.exec_eq {i : Instr} {op : State → Except Fault State} (hm : Meaning i op) (s : State) :
    exec i s = finish (op s) := by
  cases hm with
  | movRR dst src => cases dst <;> cases src <;> rfl
  | movRM r | movMR r | mviR r | inrR r | dcrR r => cases r <;> rfl
  | lxi p | inx p | dcx p | dad p | ldax p | stax p | push p | pop p => cases p <;> rfl
  | alu o x =>
    cases x with
    | reg r => cases o <;> cases r <;> rfl
    | m => cases o <;> rfl
  | aluI o => cases o <;> rfl
  | jcc cc | ccc cc | rcc cc => cases cc <;> rfl
  | rst n => cases n <;> rfl
  | unimpl o => cases o <;> rfl
  | _ => rfl

end Sys2Proof.Machine
end

section
/-! What a step keeps of memory and the configuration: a relation that every operation of the model meets, from the
write up to the host's calls. -/

namespace Sys2Proof.Machine

/-- The configuration is kept (R5), and so is the part of the invariant that speaks of memory (R200). PC is left out:
a meaning may put it anywhere, and the step's guard bounds it afterwards (R404). -/
structure StoreKept (s t : State) : Prop where
  cfg : t.cfg = s.cfg
  wf : Memory.wf s.mem → Memory.wf t.mem
  backed : (∀ x ∈ s.mem, x.1 < s.cfg.memSize) → ∀ x ∈ t.mem, x.1 < s.cfg.memSize

namespace StoreKept

/-- What writes neither memory nor the configuration keeps both. -/
theorem of_eq {s t : State} (hmem : t.mem = s.mem) (hcfg : t.cfg = s.cfg) : StoreKept s t :=
  ⟨hcfg, by rw [hmem]; exact id, by rw [hmem]; exact id⟩

/-- The same for an operation that answers `u`, which need not be written out. -/
theorem of_ok {s t u : State} (h : (.ok u : Except Fault State) = .ok t) (hmem : u.mem = s.mem)
    (hcfg : u.cfg = s.cfg) : StoreKept s t :=
  Except.ok.inj h ▸ of_eq hmem hcfg

theorem trans {s t u : State} (h : StoreKept s t) (h' : StoreKept t u) : StoreKept s u where
  cfg := h'.cfg.trans h.cfg
  wf := h'.wf ∘ h.wf
  backed hb := by have := h'.backed; rw [h.cfg] at this; exact this (h.backed hb)

/-- With a PC in bounds, the invariant carries over. -/
theorem keeps_inv {s t : State} (h : StoreKept s t) (hs : s.Inv) (hpc : t.pc.toNat ≤ s.cfg.memSize) :
    t.Inv ∧ t.cfg = s.cfg :=
  ⟨{ config := by rw [h.cfg]; exact hs.config
     memory := h.wf hs.memory
     backed := by rw [h.cfg]; exact h.backed hs.backed
     pcBound := by rw [h.cfg]; exact hpc }, h.cfg⟩

end StoreKept

theorem MemStep.storeKept {s t : State} (h : MemStep s t) : StoreKept s t := ⟨h.cfg_eq, h.wf, h.backed⟩

/-- A sequence of two operations completes exactly when both do. -/
theorem bind_eq_ok {α β : Type} {x : Except Fault α} {f : α → Except Fault β} {r : β} :
    x >>= f = .ok r ↔ ∃ a, x = .ok a ∧ f a = .ok r := by
  cases x <;> simp [bind, Except.bind]

/-! ## The shared operations -/

section SharedOps
variable {s t : State}

theorem resolvePair_storeKept (p : Pair) : StoreKept s (s.resolvePair p).2 :=
  .of_eq (s.resolvePair_mem p) (s.resolvePair_cfg p)

/-- A read through a pair answers the state the resolver leaves (R207). -/
theorem readThrough_snd {p : Pair} {x : Byte × State} (h : s.readThrough p = .ok x) :
    x.2 = (s.resolvePair p).2 := by
  obtain ⟨v, -, hx⟩ := bind_eq_ok.1 h
  cases hx; rfl

theorem readThrough_storeKept {p : Pair} {x : Byte × State} (h : s.readThrough p = .ok x) : StoreKept s x.2 :=
  readThrough_snd h ▸ resolvePair_storeKept p

theorem writeThrough_storeKept {p : Pair} {val : State → Byte} (h : s.writeThrough p val = .ok t) : StoreKept s t :=
  (resolvePair_storeKept p).trans (State.write8_ok h).storeKept

theorem operandS_storeKept {src : Src} {x : Byte × State} (h : s.operandS src = .ok x) : StoreKept s x.2 := by
  cases src with
  | reg r => cases h; exact .of_eq rfl rfl
  | m => exact readThrough_storeKept h

theorem write16_storeKept {a : Nat} {v : Word} (h : s.write16 a v = .ok t) : StoreKept s t := by
  obtain ⟨u, hu, ht⟩ := bind_eq_ok.1 h
  exact ((State.write8_ok hu).trans (State.write8_ok ht)).storeKept

theorem push16_storeKept {w : Word} (h : s.push16 w = .ok t) : StoreKept s t :=
  have lowered : StoreKept s { s with sp := s.sp - 2 } := .of_eq rfl rfl
  lowered.trans (State.push16_ok h).storeKept

theorem pop16_storeKept {x : Word × State} (h : s.pop16 = .ok x) : StoreKept s x.2 := by
  rw [State.pop16_ok h]; exact .of_eq rfl rfl

theorem portIn_storeKept (p : Byte) : StoreKept s (s.portIn p).2 := by
  cases hq : s.portAnswers <;> simp only [State.portIn, hq] <;> exact .of_eq rfl rfl

theorem enterVector_storeKept {n : Nat} (h : s.enterVector n = .ok t) : StoreKept s t := by
  obtain ⟨u, hu, ht⟩ := bind_eq_ok.1 h
  exact (push16_storeKept hu).trans (.of_ok ht rfl rfl)

theorem callTo_storeKept {w : Word} (h : callTo w s = .ok t) : StoreKept s t := by
  obtain ⟨u, hu, ht⟩ := bind_eq_ok.1 h
  exact (push16_storeKept hu).trans (.of_ok ht rfl rfl)

theorem returnFrom_storeKept (h : s.returnFrom = .ok t) : StoreKept s t := by
  obtain ⟨x, hx, ht⟩ := bind_eq_ok.1 h
  exact (pop16_storeKept hx).trans (.of_ok ht rfl rfl)

/-- INR M and DCR M: the resolver, the flags, then one write (R613, R615). -/
theorem modifyM_storeKept {op : Byte → Flags → Byte × Flags} (h : modifyM op s = .ok t) : StoreKept s t := by
  obtain ⟨v, -, ht⟩ := bind_eq_ok.1 h
  have resolved := resolvePair_storeKept (s := s) .hl
  have flagged : StoreKept (s.resolvePair .hl).2
      { (s.resolvePair .hl).2 with flags := (op v (s.resolvePair .hl).2.flags).2 } := .of_eq rfl rfl
  exact (resolved.trans flagged).trans (State.write8_ok ht).storeKept

/-- XTHL: two writes, then two registers (R808). -/
theorem exchangeTop_storeKept (h : exchangeTop s = .ok t) : StoreKept s t := by
  obtain ⟨lo, -, h⟩ := bind_eq_ok.1 h
  obtain ⟨hi, -, h⟩ := bind_eq_ok.1 h
  obtain ⟨u, hu, h⟩ := bind_eq_ok.1 h
  obtain ⟨v, hv, ht⟩ := bind_eq_ok.1 h
  exact ((State.write8_ok hu).trans (State.write8_ok hv)).storeKept.trans (.of_ok ht rfl rfl)

end SharedOps

/-! ## Every instruction -/

/-- A meaning that completes keeps memory's form and the configuration (R115, R117, R200). -/
theorem Meaning.storeKept {i : Instr} {op : State → Except Fault State} (hm : Meaning i op) {s t : State}
    (h : op s = .ok t) : StoreKept s t := by
  cases hm with
  -- forms that write registers through the model's setters
  | movRR | mviR | inrR | dcrR | lxi | inx | dcx | dad => exact .of_ok h (by simp) (by simp)
  -- forms that write single fields other than memory and the configuration
  | nop | xchg | aluI | daa | rlc | rrc | ral | rar | cma | stc | cmc | sphl | jmp | pchl | out | hlt | ei | di =>
    exact .of_ok h rfl rfl
  | inp p => exact (portIn_storeKept p).trans (.of_ok h rfl rfl)
  -- forms that read memory and then write registers
  | movRM | ldax =>
    obtain ⟨x, hx, ht⟩ := bind_eq_ok.1 h
    exact (readThrough_storeKept hx).trans (.of_ok ht (by simp) (by simp))
  | alu =>
    obtain ⟨x, hx, ht⟩ := bind_eq_ok.1 h
    exact (operandS_storeKept hx).trans (.of_ok ht rfl rfl)
  | lda | lhld =>
    obtain ⟨v, -, ht⟩ := bind_eq_ok.1 h
    exact .of_ok ht (by simp) (by simp)
  | pop | popPSW =>
    obtain ⟨x, hx, ht⟩ := bind_eq_ok.1 h
    exact (pop16_storeKept hx).trans (.of_ok ht (by simp) (by simp))
  -- forms that store
  | movMR | mviM | stax => exact writeThrough_storeKept h
  | sta => exact (State.write8_ok h).storeKept
  | shld => exact write16_storeKept h
  | inrM | dcrM => exact modifyM_storeKept h
  | push | pushPSW => exact push16_storeKept h
  | xthl => exact exchangeTop_storeKept h
  -- branches
  | jcc =>
    simp only [jumpIf] at h
    split at h <;> exact .of_ok h rfl rfl
  | call => exact callTo_storeKept h
  | ccc =>
    simp only [callIf] at h
    split at h
    · exact callTo_storeKept h
    · exact .of_ok h rfl rfl
  | rst => exact enterVector_storeKept h
  | ret => exact returnFrom_storeKept h
  | rcc =>
    simp only [returnIf] at h
    split at h
    · exact returnFrom_storeKept h
    · exact .of_ok h rfl rfl
  | unimpl => cases h

theorem exec_storeKept {i : Instr} {s t : State} (h : exec i s = .next t) : StoreKept s t := by
  obtain ⟨op, hm⟩ := exists_meaning i
  rw [hm.exec_eq, finish_next] at h
  exact hm.storeKept h

/-! ## The step -/

/-- A fetch moves PC only (R209). -/
theorem fetch8_ok {s : State} {x : Byte × State} (h : s.fetch8 = .ok x) : x.2 = { s with pc := s.pc + 1 } := by
  obtain ⟨v, -, hx⟩ := bind_eq_ok.1 h
  cases hx; rfl

theorem fetch16_ok {s : State} {x : Word × State} (h : s.fetch16 = .ok x) : x.2 = { s with pc := s.pc + 1 + 1 } := by
  obtain ⟨lo, hlo, h⟩ := bind_eq_ok.1 h
  obtain ⟨hi, hhi, hx⟩ := bind_eq_ok.1 h
  cases hx
  rw [fetch8_ok hhi, fetch8_ok hlo]

/-- Fetching an instruction moves PC only (R209, R217). -/
theorem fetchInstr_ok {s s1 : State} {op : Byte} {i : Instr} (h : fetchInstr s = .ok (op, i, s1)) :
    s1 = { s with pc := s1.pc } := by
  obtain ⟨⟨b, s'⟩, hb, h⟩ := bind_eq_ok.1 h
  obtain rfl : s' = _ := fetch8_ok hb
  simp only at h
  split at h
  · cases h; rfl
  · obtain ⟨y, hy, h⟩ := bind_eq_ok.1 h
    cases h; rw [fetch8_ok hy]
  · obtain ⟨y, hy, h⟩ := bind_eq_ok.1 h
    cases h; rw [fetch16_ok hy]

/-- A step that completes: the fetch, the meaning, then the cost and the guards (R400, R401). -/
theorem stepInstr_next {s t : State} (h : stepInstr s = .next t) :
    s.status = .running ∧ ∃ op i s1 s2, fetchInstr s = .ok (op, i, s1) ∧ exec i s1 = .next s2 ∧
      t = completeStep (cycleCostOf s.cfg op) s2 := by
  simp only [stepInstr] at h
  split at h
  case isFalse => cases h
  case isTrue hrun =>
    split at h
    · cases h
    · rename_i op i s1 hf
      split at h
      · rename_i s2 he
        cases h; exact ⟨hrun, op, i, s1, s2, hf, he, rfl⟩
      · cases h
      · cases h

@[simp] theorem stackGuard_mem (s : State) : (stackGuard s).mem = s.mem := by unfold stackGuard; split <;> rfl
@[simp] theorem stackGuard_cfg (s : State) : (stackGuard s).cfg = s.cfg := by unfold stackGuard; split <;> rfl
@[simp] theorem pcGuard_mem (s : State) : (pcGuard s).mem = s.mem := by unfold pcGuard; split <;> rfl
@[simp] theorem pcGuard_cfg (s : State) : (pcGuard s).cfg = s.cfg := by unfold pcGuard; split <;> rfl

/-- The PC guard bounds PC (R106, R404). -/
theorem pcGuard_pc_le (s : State) : (pcGuard s).pc.toNat ≤ s.cfg.memSize := by
  unfold pcGuard
  split
  · exact Nat.zero_le _
  · omega

/-- The cost and the guards write CYC, SP and PC only (R401, R405). -/
theorem completeStep_storeKept (n : Nat) (s : State) : StoreKept s (completeStep n s) :=
  .of_eq (by simp [completeStep]) (by simp [completeStep])

/-- PC is in bounds after every completed step (R106, R405). -/
theorem completeStep_pc_le (n : Nat) (s : State) : (completeStep n s).pc.toNat ≤ s.cfg.memSize := by
  simpa [completeStep] using pcGuard_pc_le (stackGuard { s with cyc := s.cyc + n })

/-! ## The host's operations -/

/-- R400 to R405: a step keeps the store, and its guard bounds PC wherever the meaning has put it. -/
theorem stepInstr_keeps_inv {s t : State} (hs : s.Inv) (h : stepInstr s = .next t) : t.Inv ∧ t.cfg = s.cfg := by
  obtain ⟨-, op, i, s1, s2, hfetch, hexec, rfl⟩ := stepInstr_next h
  have fetched : StoreKept s s1 := by rw [fetchInstr_ok hfetch]; exact .of_eq rfl rfl
  have executed : StoreKept s s2 := fetched.trans (exec_storeKept hexec)
  exact (executed.trans (completeStep_storeKept _ _)).keeps_inv hs (executed.cfg ▸ completeStep_pc_le _ _)

/-- A call of `set_vector` that is admitted writes IVEC only (R1208). -/
theorem setVector_next {n : Nat} {s t : State} (h : setVector n s = .next t) :
    ∃ v, vectorOf n = some v ∧ t = { s with ivec := some v } := by
  simp only [setVector] at h
  split at h
  · split at h
    · rename_i v hv
      cases h; exact ⟨v, hv, rfl⟩
    · cases h
  · cases h

theorem setVector_keeps_inv {n : Nat} {s t : State} (hs : s.Inv) (h : setVector n s = .next t) :
    t.Inv ∧ t.cfg = s.cfg := by
  obtain ⟨v, -, rfl⟩ := setVector_next h
  exact StoreKept.keeps_inv (s := s) (.of_eq rfl rfl) hs hs.pcBound

/-- A call of `generate_interrupt` that is admitted takes the interrupt, or with IE false changes nothing (R1209,
R1210). -/
theorem generateInterrupt_next {s t : State} (h : generateInterrupt s = .next t) :
    (∃ v, s.ivec = some v ∧ takeInterrupt v s = .ok t) ∨ (s.ie = false ∧ t = s) := by
  simp only [generateInterrupt] at h
  split at h
  · split at h
    · split at h
      · rename_i v hv
        exact .inl ⟨v, hv, finish_next.1 h⟩
      · cases h
    · rename_i hie
      cases h; exact .inr ⟨by simpa using hie, rfl⟩
  · cases h

/-- The entry addresses are 8 to 56 (R111, R1209). -/
theorem vectorEntry_le (v : IntVector) : (BitVec.ofNat 16 (8 * vectorNumber v)).toNat ≤ 56 := by
  cases v <;> decide

/-- An accepted interrupt keeps the store and leaves PC at the vector's entry (R1209). -/
theorem takeInterrupt_ok {v : IntVector} {s t : State} (h : takeInterrupt v s = .ok t) :
    StoreKept s t ∧ t.pc = BitVec.ofNat 16 (8 * vectorNumber v) := by
  obtain ⟨u, hu, ht⟩ := bind_eq_ok.1 h
  obtain ⟨w, -, hw⟩ := bind_eq_ok.1 hu
  cases ht
  exact ⟨(enterVector_storeKept hu).trans (.of_eq rfl rfl), by cases hw; rfl⟩

/-- No guard runs after an accepted interrupt: its PC is in bounds because a legal buffer has at least 16384 bytes
(R5). -/
theorem generateInterrupt_keeps_inv {s t : State} (hs : s.Inv) (h : generateInterrupt s = .next t) :
    t.Inv ∧ t.cfg = s.cfg := by
  obtain ⟨v, -, htake⟩ | ⟨-, rfl⟩ := generateInterrupt_next h
  · obtain ⟨kept, hpc⟩ := takeInterrupt_ok htake
    have entry := vectorEntry_le v
    obtain ⟨buffer, -⟩ := hs.config
    exact kept.keeps_inv hs (by rw [hpc]; omega)
  · exact ⟨hs, rfl⟩

theorem hostCall_keeps_inv {c : HostCall} {s t : State} (hs : s.Inv) (h : hostCall c s = .next t) :
    t.Inv ∧ t.cfg = s.cfg := by
  cases c with
  | step => exact stepInstr_keeps_inv hs h
  | setVector n => exact setVector_keeps_inv hs h
  | generateInterrupt => exact generateInterrupt_keeps_inv hs h

/-- Settles O3: the next operation is a host call, and every host call keeps the invariant and the configuration. -/
theorem stepKeepsTheInvariant : Obligations.StepKeepsTheInvariant := by
  intro s t hs h
  cases hq : s.hostCalls with
  | nil =>
    simp only [step, nextOperation, hq] at h
    exact stepInstr_keeps_inv hs h
  | cons c cs =>
    simp only [step, nextOperation, hq] at h
    have dequeued : State.Inv { s with hostCalls := cs } := ⟨hs.config, hs.memory, hs.backed, hs.pcBound⟩
    exact (hostCall_keeps_inv dequeued h :)

end Sys2Proof.Machine
end

section
/-! The bounds of the guards (spec/40_dispatch_alu.md R403 to R405), and the invariant at reset. -/

namespace Sys2Proof.Machine

/-- The example configuration is legal (R5, R12). -/
theorem exConfig_wf : exConfig.wf := by decide +kernel

/-- Settles O2: EX is a legal configuration, memory lists nothing, and PC is 0. -/
theorem resetMeetsTheInvariant : Obligations.ResetMeetsTheInvariant where
  config := exConfig_wf
  memory := ⟨List.Pairwise.nil, fun _ hx => (List.not_mem_nil hx).elim⟩
  backed _ hx := (List.not_mem_nil hx).elim
  pcBound := Nat.zero_le _

/-- What the stack guard ensures of SP (R106, R403). -/
def State.SpBounded (s : State) : Prop :=
  s.sp = 0 ∨ (s.cfg.romBoundary ≤ s.sp.toNat ∧ s.sp.toNat ≤ s.cfg.memSize)

theorem stackGuard_spBounded (s : State) : (stackGuard s).SpBounded := by
  unfold stackGuard
  split
  case isTrue => exact .inl rfl
  case isFalse inside => exact .inr (by omega)

@[simp] theorem pcGuard_sp (s : State) : (pcGuard s).sp = s.sp := by unfold pcGuard; split <;> rfl

/-- The PC guard, which runs last, leaves SP as the stack guard has made it (R405). -/
theorem completeStep_spBounded (n : Nat) (s : State) : (completeStep n s).SpBounded := by
  simpa [completeStep, State.SpBounded] using stackGuard_spBounded { s with cyc := s.cyc + n }

/-- Settles O10: the guards are the last thing a step does, whatever the meaning has left in SP and PC. -/
theorem guardsBoundSpAndPcAfterEveryStep : Obligations.GuardsBoundSpAndPcAfterEveryStep := by
  intro s t h
  obtain ⟨-, op, i, s1, s2, -, -, rfl⟩ := stepInstr_next h
  refine ⟨completeStep_spBounded _ _, ?_⟩
  rw [(completeStep_storeKept _ s2).cfg]
  exact completeStep_pc_le _ _

end Sys2Proof.Machine
end

section
/-! What an instruction may write (spec/10_state.md R104, R107, R110 to R113, R117): its meaning is a sequence of single
writes, each of which its row of the tables allows, so every frame rule is a rule about one write. -/

namespace Sys2Proof.Machine

/-- The instructions that write flags (R107). -/
inductive WritesFlags : Instr → Prop
  | alu (o : AluOp) (x : Src) : WritesFlags (.alu o x)
  | aluI (o : AluOp) (v : Byte) : WritesFlags (.aluI o v)
  | inrR (r : Reg) : WritesFlags (.inrR r)
  | dcrR (r : Reg) : WritesFlags (.dcrR r)
  | inrM : WritesFlags .inrM
  | dcrM : WritesFlags .dcrM
  | daa : WritesFlags .daa
  | rlc : WritesFlags .rlc
  | rrc : WritesFlags .rrc
  | ral : WritesFlags .ral
  | rar : WritesFlags .rar
  | stc : WritesFlags .stc
  | cmc : WritesFlags .cmc
  | dad (p : Rp) : WritesFlags (.dad p)
  | popPSW : WritesFlags .popPSW

/-- The instructions that write SP (R104). -/
inductive WritesSp : Instr → Prop
  | lxi (w : Word) : WritesSp (.lxi .sp w)
  | inx : WritesSp (.inx .sp)
  | dcx : WritesSp (.dcx .sp)
  | sphl : WritesSp .sphl
  | push (p : Pair) : WritesSp (.push p)
  | pop (p : Pair) : WritesSp (.pop p)
  | pushPSW : WritesSp .pushPSW
  | popPSW : WritesSp .popPSW
  | call (w : Word) : WritesSp (.call w)
  | ccc (cc : Cond) (w : Word) : WritesSp (.ccc cc w)
  | ret : WritesSp .ret
  | rcc (cc : Cond) : WritesSp (.rcc cc)
  | rst (n : RstNum) : WritesSp (.rst n)

/-- The instructions that store to memory (R213). -/
inductive Stores : Instr → Prop
  | movMR (r : Reg) : Stores (.movMR r)
  | mviM (v : Byte) : Stores (.mviM v)
  | sta (w : Word) : Stores (.sta w)
  | shld (w : Word) : Stores (.shld w)
  | stax (p : IdxPair) : Stores (.stax p)
  | inrM : Stores .inrM
  | dcrM : Stores .dcrM
  | push (p : Pair) : Stores (.push p)
  | pushPSW : Stores .pushPSW
  | xthl : Stores .xthl
  | call (w : Word) : Stores (.call w)
  | ccc (cc : Cond) (w : Word) : Stores (.ccc cc w)
  | rst (n : RstNum) : Stores (.rst n)

/-- One write that an instruction is allowed to make: a register or PC by any instruction, everything else by its
listed writers only. -/
inductive Write (i : Instr) : State → State → Prop
  | reg (s : State) (r : Reg) (v : Byte) : Write i s (s.setReg r v)
  | pc (s : State) (w : Word) : Write i s { s with pc := w }
  | flags (s : State) (f : Flags) (hi : WritesFlags i) : Write i s { s with flags := f }
  | sp (s : State) (w : Word) (hi : WritesSp i) : Write i s { s with sp := w }
  | mem (s : State) (m : Memory) (hi : Stores i) : Write i s { s with mem := m }
  | status (s : State) (x : Status) (hi : i = .hlt) : Write i s { s with status := x }
  | ie (s : State) (b : Bool) (hi : i = .ei ∨ i = .di) : Write i s { s with ie := b }
  | portIn (s : State) (vs : List Byte) (n : Nat) (hi : ∃ p, i = .inp p) :
      Write i s { s with portAnswers := vs, inCount := n }
  | portOut (s : State) (es : List PortEvent) (hi : ∃ p, i = .out p) : Write i s { s with outTrace := es }

/-- Any number of writes that an instruction is allowed to make. -/
abbrev Writes (i : Instr) : State → State → Prop := Relation.ReflTransGen (Write i)

section Write
variable {i : Instr} {s t : State}

theorem Write.flags_eq (h : Write i s t) (hi : ¬ WritesFlags i) : t.flags = s.flags := by
  cases h with
  | reg => simp
  | flags _ hw => exact absurd hw hi
  | _ => rfl

theorem Write.sp_eq (h : Write i s t) (hi : ¬ WritesSp i) : t.sp = s.sp := by
  cases h with
  | reg => simp
  | sp _ hw => exact absurd hw hi
  | _ => rfl

theorem Write.mem_eq (h : Write i s t) (hi : ¬ Stores i) : t.mem = s.mem := by
  cases h with
  | reg => simp
  | mem _ hw => exact absurd hw hi
  | _ => rfl

theorem Write.status_eq (h : Write i s t) (hi : i ≠ .hlt) : t.status = s.status := by
  cases h with
  | reg => simp
  | status _ hw => exact absurd hw hi
  | _ => rfl

theorem Write.ie_eq (h : Write i s t) (hei : i ≠ .ei) (hdi : i ≠ .di) : t.ie = s.ie := by
  cases h with
  | reg => simp
  | ie _ hw => exact (hw.elim hei hdi).elim
  | _ => rfl

theorem Write.outTrace_eq (h : Write i s t) (hi : ∀ p, i ≠ .out p) : t.outTrace = s.outTrace := by
  cases h with
  | reg => simp
  | portOut _ hw => obtain ⟨p, hp⟩ := hw; exact absurd hp (hi p)
  | _ => rfl

theorem Write.portIn_eq (h : Write i s t) (hi : ∀ p, i ≠ .inp p) :
    (t.portAnswers, t.inCount) = (s.portAnswers, s.inCount) := by
  cases h with
  | reg => simp
  | portIn _ _ hw => obtain ⟨p, hp⟩ := hw; exact absurd hp (hi p)
  | _ => rfl

/-- The part of the state that no instruction writes (R111, R113, R117). -/
def State.fixedPart (s : State) : Option IntVector × Nat × Config × List HostCall :=
  (s.ivec, s.cyc, s.cfg, s.hostCalls)

theorem Write.fixedPart_eq (h : Write i s t) : t.fixedPart = s.fixedPart := by
  cases h with
  | reg => simp [State.fixedPart]
  | _ => rfl

namespace Writes

/-- What each single write keeps, any number of them keeps. -/
theorem frame {α : Type} {f : State → α} (h : Writes i s t) (hf : ∀ u v, Write i u v → f v = f u) : f t = f s := by
  induction h with
  | refl => rfl
  | tail _ hw ih => exact (hf _ _ hw).trans ih

/-- The same writes, for an operation that answers `u`, which need not be written out. -/
theorem of_ok {u : State} (h : (.ok u : Except Fault State) = .ok t) (hw : Writes i s u) : Writes i s t :=
  Except.ok.inj h ▸ hw

theorem setReg (s : State) (r : Reg) (v : Byte) : Writes i s (s.setReg r v) := .single (.reg s r v)

theorem pc (s : State) (w : Word) : Writes i s { s with pc := w } := .single (.pc s w)

theorem flags (s : State) (f : Flags) (hi : WritesFlags i) : Writes i s { s with flags := f } := .single (.flags s f hi)

/-- A pair is written as its two registers (R102). -/
theorem setPair (s : State) (p : Pair) (w : Word) : Writes i s (s.setPair p w) := by
  cases p with
  | bc => exact (setReg s .b (hi8 w)).trans (setReg _ .c (lo8 w))
  | de => exact (setReg s .d (hi8 w)).trans (setReg _ .e (lo8 w))
  | hl => exact (setReg s .h (hi8 w)).trans (setReg _ .l (lo8 w))

theorem setRp (s : State) (p : Rp) (w : Word) (hi : p = .sp → WritesSp i) : Writes i s (s.setRp p w) := by
  cases p with
  | bc => exact setPair s .bc w
  | de => exact setPair s .de w
  | hl => exact setPair s .hl w
  | sp => exact .single (.sp s w (hi rfl))

/-- XCHG: four registers (R512). -/
theorem exchange (s : State) : Writes i s { s with h := s.d, d := s.h, l := s.e, e := s.l } :=
  (((setReg s .h s.d).trans (setReg _ .d s.h)).trans (setReg _ .l s.e)).trans (setReg _ .e s.l)

theorem of_memStep (h : MemStep s t) (hi : Stores i) : Writes i s t := by
  rw [h.eq]; exact .single (.mem s t.mem hi)

/-! ## The shared operations -/

theorem resolvePair (s : State) (p : Pair) : Writes i s (s.resolvePair p).2 := by
  obtain h | h := s.resolvePair_snd p <;> rw [h]
  · exact setPair s p 0

theorem of_readThrough {p : Pair} {x : Byte × State} (h : s.readThrough p = .ok x) : Writes i s x.2 :=
  readThrough_snd h ▸ resolvePair s p

theorem of_operandS {src : Src} {x : Byte × State} (h : s.operandS src = .ok x) : Writes i s x.2 := by
  cases src with
  | reg r => cases h; exact .refl
  | m => exact of_readThrough h

theorem of_writeThrough {p : Pair} {val : State → Byte} (h : s.writeThrough p val = .ok t) (hi : Stores i) :
    Writes i s t :=
  (resolvePair s p).trans (of_memStep (State.write8_ok h) hi)

theorem of_write16 {a : Nat} {v : Word} (h : s.write16 a v = .ok t) (hi : Stores i) : Writes i s t := by
  obtain ⟨u, hu, ht⟩ := bind_eq_ok.1 h
  exact of_memStep ((State.write8_ok hu).trans (State.write8_ok ht)) hi

theorem of_push16 {w : Word} (h : s.push16 w = .ok t) (hsp : WritesSp i) (hmem : Stores i) : Writes i s t :=
  .head (.sp s _ hsp) (of_memStep (State.push16_ok h) hmem)

theorem of_pop16 {x : Word × State} (h : s.pop16 = .ok x) (hi : WritesSp i) : Writes i s x.2 := by
  rw [State.pop16_ok h]; exact .single (.sp s _ hi)

theorem of_callTo {w : Word} (h : callTo w s = .ok t) (hsp : WritesSp i) (hmem : Stores i) : Writes i s t := by
  obtain ⟨u, hu, ht⟩ := bind_eq_ok.1 h
  exact .of_ok ht ((of_push16 hu hsp hmem).trans (pc u w))

theorem of_enterVector {n : Nat} (h : s.enterVector n = .ok t) (hsp : WritesSp i) (hmem : Stores i) :
    Writes i s t := by
  obtain ⟨u, hu, ht⟩ := bind_eq_ok.1 h
  exact .of_ok ht ((of_push16 hu hsp hmem).trans (pc u _))

theorem of_returnFrom (h : s.returnFrom = .ok t) (hi : WritesSp i) : Writes i s t := by
  obtain ⟨x, hx, ht⟩ := bind_eq_ok.1 h
  exact .of_ok ht ((of_pop16 hx hi).trans (pc x.2 x.1))

/-- A new A and new flags: the ALU forms, DAA and the rotates. -/
theorem setAFlags (s : State) (v : Byte) (f : Flags) (hi : WritesFlags i) :
    Writes i s { s with a := v, flags := f } :=
  (setReg s .a v).trans (flags _ f hi)

/-- INR M and DCR M: the resolver, the flags, then one store (R613, R615). -/
theorem of_modifyM {op : Byte → Flags → Byte × Flags} (h : modifyM op s = .ok t) (hf : WritesFlags i)
    (hmem : Stores i) : Writes i s t := by
  obtain ⟨v, -, ht⟩ := bind_eq_ok.1 h
  exact ((resolvePair s .hl).trans (flags _ _ hf)).trans (of_memStep (State.write8_ok ht) hmem)

/-- XTHL: two stores, then two registers (R808). -/
theorem of_exchangeTop (h : exchangeTop s = .ok t) (hi : Stores i) : Writes i s t := by
  obtain ⟨lo, -, h⟩ := bind_eq_ok.1 h
  obtain ⟨hi', -, h⟩ := bind_eq_ok.1 h
  obtain ⟨u, hu, h⟩ := bind_eq_ok.1 h
  obtain ⟨v, hv, ht⟩ := bind_eq_ok.1 h
  have stored : Writes i s v := of_memStep ((State.write8_ok hu).trans (State.write8_ok hv)) hi
  exact .of_ok ht (stored.trans ((setReg v .l lo).trans (setReg _ .h hi')))

/-- IN: the port record, then A (R1000). -/
theorem of_inputPort {p : Byte} (h : inputPort p s = .ok t) (hi : ∃ p, i = .inp p) : Writes i s t := by
  have answered : Writes i s (s.portIn p).2 := by
    cases hq : s.portAnswers <;> simp only [State.portIn, hq] <;> exact .single (.portIn s _ _ hi)
  exact .of_ok h (answered.trans (setReg _ .a _))

end Writes

/-! ## Every instruction -/

/-- A meaning that completes has made only the writes its instruction is listed for. -/
theorem Meaning.writes {op : State → Except Fault State} (hm : Meaning i op) (h : op s = .ok t) : Writes i s t := by
  cases hm with
  | nop => cases h; exact .refl
  -- registers
  | movRR dst | mviR dst => exact .of_ok h (.setReg s dst _)
  | cma => exact .of_ok h (.setReg s .a _)
  | xchg => exact .of_ok h (Writes.exchange s)
  | lxi p | inx p | dcx p => exact .of_ok h (.setRp s p _ (by rintro rfl; constructor))
  | lda w =>
    obtain ⟨v, -, ht⟩ := bind_eq_ok.1 h
    exact .of_ok ht (.setReg s .a v)
  | lhld w =>
    obtain ⟨v, -, ht⟩ := bind_eq_ok.1 h
    exact .of_ok ht (.setPair s .hl v)
  | movRM dst =>
    obtain ⟨x, hx, ht⟩ := bind_eq_ok.1 h
    exact .of_ok ht ((Writes.of_readThrough hx).trans (Writes.setReg x.2 dst x.1))
  | ldax p =>
    obtain ⟨x, hx, ht⟩ := bind_eq_ok.1 h
    exact .of_ok ht ((Writes.of_readThrough hx).trans (Writes.setReg x.2 .a x.1))
  -- flags
  | alu o =>
    obtain ⟨x, hx, ht⟩ := bind_eq_ok.1 h
    exact .of_ok ht ((Writes.of_operandS hx).trans (Writes.setAFlags x.2 _ _ (by constructor)))
  | aluI | daa | rlc | rrc | ral | rar => exact .of_ok h (.setAFlags s _ _ (by constructor))
  | inrR dst | dcrR dst => exact .of_ok h ((Writes.setReg s dst _).trans (Writes.flags _ _ (by constructor)))
  | stc | cmc => exact .of_ok h (.flags s _ (by constructor))
  | dad => exact .of_ok h ((Writes.setPair s .hl _).trans (Writes.flags _ _ (by constructor)))
  -- memory
  | movMR | mviM | stax => exact .of_writeThrough h (by constructor)
  | sta => exact .of_memStep (State.write8_ok h) (by constructor)
  | shld w => exact .of_write16 h (.shld w)
  | inrM | dcrM => exact .of_modifyM h (by constructor) (by constructor)
  | xthl => exact .of_exchangeTop h .xthl
  -- the stack
  | push | pushPSW => exact .of_push16 h (by constructor) (by constructor)
  | pop p =>
    obtain ⟨x, hx, ht⟩ := bind_eq_ok.1 h
    exact .of_ok ht ((Writes.of_pop16 hx (.pop p)).trans (Writes.setPair x.2 p x.1))
  | popPSW =>
    obtain ⟨x, hx, ht⟩ := bind_eq_ok.1 h
    exact .of_ok ht ((Writes.of_pop16 hx .popPSW).trans (Writes.setAFlags x.2 _ _ .popPSW))
  | sphl => exact .of_ok h (.single (.sp s _ .sphl))
  -- branches
  | jmp | pchl => exact .of_ok h (.pc s _)
  | jcc =>
    simp only [jumpIf] at h
    split at h
    · exact .of_ok h (.pc s _)
    · exact .of_ok h .refl
  | call w => exact .of_callTo h (.call w) (.call w)
  | ccc cc w =>
    simp only [callIf] at h
    split at h
    · exact .of_callTo h (.ccc cc w) (.ccc cc w)
    · exact .of_ok h .refl
  | rst n => exact .of_enterVector h (.rst n) (.rst n)
  | ret => exact .of_returnFrom h .ret
  | rcc cc =>
    simp only [returnIf] at h
    split at h
    · exact .of_returnFrom h (.rcc cc)
    · exact .of_ok h .refl
  -- the port record and the control state
  | inp p => exact .of_inputPort h ⟨p, rfl⟩
  | out p => exact .of_ok h (.single (.portOut s _ ⟨p, rfl⟩))
  | hlt => exact .of_ok h (.single (.status s _ rfl))
  | ei => exact .of_ok h (.single (.ie s _ (.inl rfl)))
  | di => exact .of_ok h (.single (.ie s _ (.inr rfl)))
  | unimpl => cases h

theorem exec_writes (h : exec i s = .next t) : Writes i s t := by
  obtain ⟨op, hm⟩ := exists_meaning i
  rw [hm.exec_eq, finish_next] at h
  exact hm.writes h

end Write

/-! ## The rules of the tables -/

/-- Settles O54: only the listed instructions may make a write of the flags, and each of them is excluded here. -/
theorem onlyTheListedInstructionsWriteFlags : Obligations.OnlyTheListedInstructionsWriteFlags := by
  intro i s t alu aluI inrR dcrR inrM dcrM daa rlc rrc ral rar stc cmc dad popPSW h
  have unlisted : ¬ WritesFlags i := by
    intro hi
    cases hi <;> solve_by_elim
  exact (exec_writes h).frame fun _ _ hw => hw.flags_eq unlisted

/-- Settles O55: each part of the control state is kept by every write but those of its listed writers. -/
theorem controlStateHasOnlyItsListedWriters : Obligations.ControlStateHasOnlyItsListedWriters := by
  intro i s t h
  have writes := exec_writes h
  have fixed : t.fixedPart = s.fixedPart := writes.frame fun _ _ hw => hw.fixedPart_eq
  simp only [State.fixedPart, Prod.mk.injEq] at fixed
  obtain ⟨hivec, hcyc, hcfg, hcalls⟩ := fixed
  refine ⟨hivec, hcyc, hcfg, hcalls, fun hi => ?_, fun hei hdi => ?_, fun hi => ?_, fun hi => ?_⟩
  · exact writes.frame fun _ _ hw => hw.status_eq hi
  · exact writes.frame fun _ _ hw => hw.ie_eq hei hdi
  · exact writes.frame fun _ _ hw => hw.outTrace_eq hi
  · exact Prod.mk.inj (writes.frame (f := fun u => (u.portAnswers, u.inCount)) fun _ _ hw => hw.portIn_eq hi)

/-- Settles O56: only the listed instructions may make a write of SP, or of memory, and each half excludes them. -/
theorem onlyTheListedInstructionsWriteSpOrMemory : Obligations.OnlyTheListedInstructionsWriteSpOrMemory := by
  intro i s t h
  constructor
  · intro lxi inx dcx sphl push pop pushPSW popPSW call ccc ret rcc rst
    have unlisted : ¬ WritesSp i := by
      intro hi
      cases hi <;> solve_by_elim
    exact (exec_writes h).frame fun _ _ hw => hw.sp_eq unlisted
  · intro movMR mviM sta shld stax inrM dcrM push pushPSW xthl call ccc rst x
    have unlisted : ¬ Stores i := by
      intro hi
      cases hi <;> solve_by_elim
    have hmem : t.mem = s.mem := (exec_writes h).frame fun _ _ hw => hw.mem_eq unlisted
    simp only [State.readByte, hmem]

end Sys2Proof.Machine
end

section
/-! What no instruction reads (spec/10_state.md R108, R110, R111): AC, which DAA alone reads, IE and IVEC. A state is
given other values there, and every instruction has the same outcome, the new values carried along. -/

namespace Sys2Proof.Machine

/-- A state with other values of AC, IE and IVEC, each where one is given. -/
def State.overlay (ac ie : Option Bool) (ivec : Option (Option IntVector)) (s : State) : State :=
  { s with flags := { s.flags with ac := ac.getD s.flags.ac }, ie := ie.getD s.ie, ivec := ivec.getD s.ivec }

/-- A function maps the answer of a sequence of two operations when each of them maps its own answer. -/
theorem bind_map {α β α' β' : Type} {x : Except Fault α} {f : α → Except Fault β} {f' : α' → Except Fault β'}
    {k : α → α'} {g : β → β'} (h : ∀ a, f' (k a) = (f a).map g) : x.map k >>= f' = (x >>= f).map g := by
  cases x with
  | error r => rfl
  | ok a => exact h a

/-- The same when the first operation answers the same value. -/
theorem bind_map_same {α β β' : Type} {x : Except Fault α} {f : α → Except Fault β} {f' : α → Except Fault β'}
    {g : β → β'} (h : ∀ a, f' a = (f a).map g) : x >>= f' = (x >>= f).map g := by
  cases x with
  | error r => rfl
  | ok a => exact h a

section Overlay
variable (ac ie : Option Bool) (ivec : Option (Option IntVector)) (s : State)

/-! ## The shared operations -/

theorem overlay_reg (r : Reg) : (s.overlay ac ie ivec).reg r = s.reg r := by cases r <;> rfl

theorem overlay_setReg (r : Reg) (v : Byte) :
    (s.overlay ac ie ivec).setReg r v = (s.setReg r v).overlay ac ie ivec := by cases r <;> rfl

theorem overlay_pair (p : Pair) : (s.overlay ac ie ivec).pair p = s.pair p := by cases p <;> rfl

theorem overlay_setPair (p : Pair) (w : Word) :
    (s.overlay ac ie ivec).setPair p w = (s.setPair p w).overlay ac ie ivec := by cases p <;> rfl

theorem overlay_rp (p : Rp) : (s.overlay ac ie ivec).rp p = s.rp p := by cases p <;> rfl

theorem overlay_setRp (p : Rp) (w : Word) :
    (s.overlay ac ie ivec).setRp p w = (s.setRp p w).overlay ac ie ivec := by cases p <;> rfl

theorem overlay_write8 (a : Nat) (v : Byte) :
    (s.overlay ac ie ivec).write8 a v = (s.write8 a v).map (State.overlay ac ie ivec) := by
  have hremap : (s.overlay ac ie ivec).remap a = s.remap a := rfl
  have hcfg : (s.overlay ac ie ivec).cfg = s.cfg := rfl
  simp only [State.write8, hremap, hcfg]
  split
  · rfl
  · split <;> rfl

theorem overlay_resolvePair (p : Pair) :
    (s.overlay ac ie ivec).resolvePair p = (s.resolvePair p).map id (State.overlay ac ie ivec) := by
  have hcfg : (s.overlay ac ie ivec).cfg = s.cfg := rfl
  simp only [State.resolvePair, overlay_pair, overlay_setPair, hcfg]
  split <;> rfl

theorem overlay_readThrough (p : Pair) :
    (s.overlay ac ie ivec).readThrough p = (s.readThrough p).map (Prod.map id (State.overlay ac ie ivec)) := by
  simp only [State.readThrough, overlay_resolvePair]
  exact bind_map_same (x := (s.resolvePair p).2.read8 (s.resolvePair p).1) fun _ => rfl

theorem overlay_operandS (x : Src) :
    (s.overlay ac ie ivec).operandS x = (s.operandS x).map (Prod.map id (State.overlay ac ie ivec)) := by
  cases x with
  | reg r => simp only [State.operandS, overlay_reg]; rfl
  | m => exact overlay_readThrough ac ie ivec s .hl

theorem overlay_writeThrough (p : Pair) {val : State → Byte}
    (hval : ∀ u : State, val (u.overlay ac ie ivec) = val u) :
    (s.overlay ac ie ivec).writeThrough p val = (s.writeThrough p val).map (State.overlay ac ie ivec) := by
  simp only [State.writeThrough, overlay_resolvePair, Prod.map, id, hval]
  exact overlay_write8 ..

theorem overlay_write16 (a : Nat) (v : Word) :
    (s.overlay ac ie ivec).write16 a v = (s.write16 a v).map (State.overlay ac ie ivec) := by
  simp only [State.write16, overlay_write8]
  exact bind_map fun u => overlay_write8 ac ie ivec u _ _

theorem overlay_push16 (w : Word) :
    (s.overlay ac ie ivec).push16 w = (s.push16 w).map (State.overlay ac ie ivec) := by
  have lowered := overlay_write8 ac ie ivec { s with sp := s.sp - 2 } ((s.sp - 2).toNat + 1) (hi8 w)
  exact (congrArg (· >>= fun u => u.write8 u.sp.toNat (lo8 w)) lowered).trans
    (bind_map fun u => overlay_write8 ac ie ivec u _ _)

theorem overlay_pop16 :
    (s.overlay ac ie ivec).pop16 = s.pop16.map (Prod.map id (State.overlay ac ie ivec)) :=
  bind_map_same (x := s.read8 s.sp.toNat) fun _ => bind_map_same (x := s.read8 (s.sp.toNat + 1)) fun _ => rfl

theorem overlay_callTo (w : Word) :
    callTo w (s.overlay ac ie ivec) = (callTo w s).map (State.overlay ac ie ivec) :=
  (congrArg (· >>= _) (overlay_push16 ac ie ivec s s.pc)).trans (bind_map fun _ => rfl)

theorem overlay_enterVector (n : Nat) :
    (s.overlay ac ie ivec).enterVector n = (s.enterVector n).map (State.overlay ac ie ivec) :=
  (congrArg (· >>= _) (overlay_push16 ac ie ivec s s.pc)).trans (bind_map fun _ => rfl)

theorem overlay_returnFrom :
    (s.overlay ac ie ivec).returnFrom = s.returnFrom.map (State.overlay ac ie ivec) :=
  (congrArg (· >>= _) (overlay_pop16 ac ie ivec s)).trans (bind_map fun _ => rfl)

/-- No condition code tests AC (R305). -/
theorem overlay_condHolds (cc : Cond) : condHolds (s.overlay ac ie ivec).flags cc = condHolds s.flags cc := by
  cases cc <;> rfl

/-- INR M and DCR M: an operation whose answer does not depend on AC overwrites it (R613, R615). -/
theorem overlay_modifyM {op : Byte → Flags → Byte × Flags}
    (hop : ∀ x u, op x (State.overlay ac ie ivec u).flags = op x u.flags) :
    modifyM op (s.overlay ac ie ivec) = (modifyM op s).map (State.overlay none ie ivec) := by
  simp only [modifyM, overlay_resolvePair, Prod.map, id]
  refine bind_map_same (x := (s.resolvePair .hl).2.read8 (s.resolvePair .hl).1) fun x => ?_
  simp only [hop]
  exact overlay_write8 none ie ivec { (s.resolvePair .hl).2 with flags := (op x (s.resolvePair .hl).2.flags).2 } _ _

/-- XTHL (R808). -/
theorem overlay_exchangeTop :
    exchangeTop (s.overlay ac ie ivec) = (exchangeTop s).map (State.overlay ac ie ivec) :=
  bind_map_same (x := s.read8 s.sp.toNat) fun _ =>
  bind_map_same (x := s.read8 (s.sp.toNat + 1)) fun _ =>
  (congrArg (· >>= _) (overlay_write8 ac ie ivec s s.sp.toNat s.l)).trans <| bind_map fun u =>
  (congrArg (· >>= _) (overlay_write8 ac ie ivec u (s.sp.toNat + 1) s.h)).trans <| bind_map fun _ => rfl

/-- IN reads the port record only (R1000). -/
theorem overlay_inputPort (p : Byte) :
    inputPort p (s.overlay ac ie ivec) = (inputPort p s).map (State.overlay ac ie ivec) := by
  have hq : (s.overlay ac ie ivec).portAnswers = s.portAnswers := rfl
  simp only [inputPort, State.portIn, hq]
  cases s.portAnswers <;> rfl

end Overlay

/-! ## Every instruction -/

/-- R108, R110, R111: a meaning has the same outcome whatever AC, IE and IVEC hold, and carries them along; the ALU
operations set AC themselves, so they carry the other two only. DAA reads AC, and EI and DI set IE. -/
theorem overlay_of_meaning {i : Instr} {op : State → Except Fault State} (hm : Meaning i op) {ac : Option Bool}
    (hdaa : i = .daa → ac = none) (hei : i ≠ .ei) (hdi : i ≠ .di) (ie : Option Bool)
    (ivec : Option (Option IntVector)) :
    ∃ ac', (ac = none → ac' = none) ∧
      ∀ s, op (s.overlay ac ie ivec) = (op s).map (State.overlay ac' ie ivec) := by
  cases hm with
  | ei => exact absurd rfl hei
  | di => exact absurd rfl hdi
  -- forms that set AC themselves
  | alu o x =>
    refine ⟨none, fun _ => rfl, fun s => ?_⟩
    simp only [aluSrc, overlay_operandS]
    exact bind_map fun a => by cases o <;> rfl
  | aluI o => exact ⟨none, fun _ => rfl, fun s => by cases o <;> rfl⟩
  | inrR r | dcrR r => exact ⟨none, fun _ => rfl, fun s => by cases r <;> rfl⟩
  | inrM | dcrM => exact ⟨none, fun _ => rfl, fun s => overlay_modifyM ac ie ivec s fun _ _ => rfl⟩
  -- DAA, whose AC is left alone here
  | daa => cases hdaa rfl; exact ⟨none, id, fun _ => rfl⟩
  -- forms that write single fields
  | nop | xchg | rlc | rrc | ral | rar | cma | stc | cmc | sphl | jmp | pchl | out | hlt | unimpl =>
    exact ⟨ac, id, fun _ => rfl⟩
  | movRR => exact ⟨ac, id, fun s => by simp only [movRR, overlay_reg, overlay_setReg]; rfl⟩
  | mviR dst v => exact ⟨ac, id, fun s => congrArg Except.ok (overlay_setReg ac ie ivec s dst v)⟩
  | lxi | inx | dcx =>
    exact ⟨ac, id, fun s => by simp only [lxiRp, incRp, decRp, overlay_rp, overlay_setRp]; rfl⟩
  | dad => exact ⟨ac, id, fun s => by simp only [addRp, overlay_rp, overlay_pair, overlay_setPair]; rfl⟩
  | inp p => exact ⟨ac, id, fun s => overlay_inputPort ac ie ivec s p⟩
  -- forms that read memory and then write registers
  | movRM dst =>
    refine ⟨ac, id, fun s => ?_⟩
    simp only [movRM, overlay_readThrough]
    exact bind_map fun a => congrArg Except.ok (overlay_setReg ac ie ivec a.2 dst a.1)
  | ldax =>
    refine ⟨ac, id, fun s => ?_⟩
    simp only [loadIndirect, overlay_readThrough]
    exact bind_map fun _ => rfl
  | lda w => exact ⟨ac, id, fun s => bind_map_same (x := s.read8 w.toNat) fun _ => rfl⟩
  | lhld w => exact ⟨ac, id, fun s => bind_map_same (x := s.read16 w.toNat) fun _ => rfl⟩
  | pop p =>
    refine ⟨ac, id, fun s => ?_⟩
    simp only [popPair, overlay_pop16]
    exact bind_map fun a => congrArg Except.ok (overlay_setPair ac ie ivec a.2 p _)
  | popPSW =>
    refine ⟨ac, id, fun s => ?_⟩
    simp only [popPsw, overlay_pop16]
    exact bind_map fun _ => rfl
  -- forms that store
  | movMR r =>
    exact ⟨ac, id, fun s => overlay_writeThrough ac ie ivec s .hl fun u => overlay_reg ac ie ivec u r⟩
  | mviM | stax => exact ⟨ac, id, fun s => overlay_writeThrough ac ie ivec s _ fun _ => rfl⟩
  | sta w => exact ⟨ac, id, fun s => overlay_write8 ac ie ivec s w.toNat s.a⟩
  | shld w => exact ⟨ac, id, fun s => overlay_write16 ac ie ivec s w.toNat (s.pair .hl)⟩
  | push p =>
    exact ⟨ac, id, fun s => by simp only [pushPair, overlay_pair, overlay_push16]⟩
  | pushPSW => exact ⟨ac, id, fun s => overlay_push16 ac ie ivec s (cat s.a (packFlags s.cfg.psw s.flags))⟩
  | xthl => exact ⟨ac, id, overlay_exchangeTop ac ie ivec⟩
  -- branches
  | jcc cc w =>
    refine ⟨ac, id, fun s => ?_⟩
    simp only [jumpIf, overlay_condHolds]
    split <;> rfl
  | call w => exact ⟨ac, id, fun s => overlay_callTo ac ie ivec s w⟩
  | ccc cc w =>
    refine ⟨ac, id, fun s => ?_⟩
    simp only [callIf, overlay_condHolds]
    split
    · exact overlay_callTo ac ie ivec s w
    · rfl
  | rst n => exact ⟨ac, id, fun s => overlay_enterVector ac ie ivec s (rstNumber n)⟩
  | ret => exact ⟨ac, id, overlay_returnFrom ac ie ivec⟩
  | rcc cc =>
    refine ⟨ac, id, fun s => ?_⟩
    simp only [returnIf, overlay_condHolds]
    split
    · exact overlay_returnFrom ac ie ivec s
    · rfl

/-- The same of the dispatcher (R412). -/
theorem exec_overlay {i : Instr} {ac : Option Bool} (hdaa : i = .daa → ac = none) (hei : i ≠ .ei) (hdi : i ≠ .di)
    (ie : Option Bool) (ivec : Option (Option IntVector)) :
    ∃ ac', (ac = none → ac' = none) ∧
      ∀ s, exec i (s.overlay ac ie ivec) = mapNext (State.overlay ac' ie ivec) (exec i s) := by
  obtain ⟨op, hm⟩ := exists_meaning i
  obtain ⟨ac', hac, hop⟩ := overlay_of_meaning hm hdaa hei hdi ie ivec
  refine ⟨ac', hac, fun s => ?_⟩
  rw [hm.exec_eq, hm.exec_eq, hop]
  cases op s <;> rfl

/-- Settles O57: another AC is carried along or overwritten, and `withoutAc` sets it aside either way. -/
theorem onlyDecimalAdjustReadsAc : Obligations.OnlyDecimalAdjustReadsAc := by
  intro i s b hdaa
  obtain rfl | hei := eq_or_ne i .ei
  · rfl
  obtain rfl | hdi := eq_or_ne i .di
  · rfl
  obtain ⟨ac', -, h⟩ := exec_overlay (ac := some b) (fun hi => absurd hi hdaa) hei hdi none none
  have outcome : exec i { s with flags := { s.flags with ac := b } } = _ := h s
  rw [outcome]
  cases exec i s <;> rfl

/-- Settles O58: other values of IE and IVEC are carried along, and AC is left as it is. -/
theorem noInstructionReadsTheInterruptState : Obligations.NoInstructionReadsTheInterruptState := by
  intro i s b v
  refine ⟨fun hei hdi => ?_, ?_⟩
  · obtain ⟨ac', hac, h⟩ := exec_overlay (ac := none) (fun _ => rfl) hei hdi (some b) (some v)
    obtain rfl := hac rfl
    exact h s
  · rintro (rfl | rfl) <;> rfl

end Sys2Proof.Machine
end

section
/-! The answers of a write (spec/20_memory.md R202 to R204) and of the address-pair resolver (R206), one lemma per
branch. -/

namespace Sys2Proof.Machine

/-! ## The write -/

/-- An unguarded write inside the buffer stores its byte at the remapped address (R202). -/
theorem State.write8_stored {s : State} {a : Nat} (v : Byte) (unguarded : s.cfg.romBoundary < s.remap a)
    (backed : s.remap a < s.cfg.memSize) (hm : Memory.wf s.mem) :
    ∃ t, s.write8 a v = .ok t ∧ MemStep s t ∧ ∀ x, t.readByte x = if x = s.remap a then v else s.readByte x := by
  obtain ⟨t, ht, stored, hread⟩ := State.write8_writable v (.inr backed : s.Writable a)
  refine ⟨t, ht, stored, fun x => ?_⟩
  rw [hread hm x, State.afterWrite]
  simp [unguarded]

/-- Settles O18: the three answers of a write, by where its remapped address lies. -/
theorem writesAreRemappedGuardedOrStored : Obligations.WritesAreRemappedGuardedOrStored := by
  intro s a a' v hm remapped
  obtain rfl : a' = s.remap a := remapped
  refine ⟨fun guarded => State.write8_guarded v guarded, fun unguarded outside => ?_, fun unguarded backed => ?_⟩
  · exact State.write8_fault v (by omega)
  · obtain ⟨t, ht, stored, hread⟩ := State.write8_stored v unguarded backed hm
    exact ⟨t, ht, stored.wf hm, stored.eq, hread⟩

/-! ## The resolver -/

/-- A pair that points past the buffer is zeroed, and its address is 0 (R206). -/
theorem State.resolvePair_past {s : State} {p : Pair} (h : s.cfg.memSize ≤ (s.pair p).toNat) :
    s.resolvePair p = (0, s.setPair p 0) := if_pos h

/-- A pair that points into the buffer is its own address (R206). -/
theorem State.resolvePair_within {s : State} {p : Pair} (h : (s.pair p).toNat < s.cfg.memSize) :
    s.resolvePair p = ((s.pair p).toNat, s) := if_neg (Nat.not_le.2 h)

/-- A pair set to 0 leaves 0 in both its registers (R102). -/
theorem State.reg_setPair_zero {p : Pair} {r : Reg} (s : State) (hr : r ∈ pairRegs p) : (s.setPair p 0).reg r = 0 := by
  cases p <;> obtain rfl | rfl := List.mem_pair.1 hr <;> rfl

theorem State.reg_setPair_of_notMem {p : Pair} {r : Reg} (s : State) (w : Word) (hr : r ∉ pairRegs p) :
    (s.setPair p w).reg r = s.reg r := by
  cases p <;> cases r <;> simp [pairRegs] at hr <;> rfl

/-- Writing a pair changes its two registers and nothing else (R102). -/
theorem setPair_registersOnly (s : State) (p : Pair) (w : Word) : RegistersOnly (pairRegs p) s (s.setPair p w) where
  regs _ hr := s.reg_setPair_of_notMem w hr
  ie := s.setPair_ie p w
  ivec := s.setPair_ivec p w
  status := s.setPair_status p w
  cyc := s.setPair_cyc p w
  cfg := s.setPair_cfg p w
  portAnswers := s.setPair_portAnswers p w
  inCount := s.setPair_inCount p w
  outTrace := s.setPair_outTrace p w
  hostCalls := s.setPair_hostCalls p w
  flags := s.setPair_flags p w
  sp := s.setPair_sp p w
  pc := s.setPair_pc p w
  memory := s.setPair_readByte p w

/-- Settles O19: the two answers of the resolver; no 16-bit value points past a buffer of 65536 bytes. -/
theorem resolverZeroesAPairPastTheBuffer : Obligations.ResolverZeroesAPairPastTheBuffer := by
  intro s p
  refine ⟨fun past => ?_, State.resolvePair_within, fun whole => ?_⟩
  · rw [State.resolvePair_past past]
    exact ⟨rfl, fun r hr => s.reg_setPair_zero hr, setPair_registersOnly s p 0⟩
  · exact State.resolvePair_within (by rw [whole]; exact (s.pair p).isLt)

end Sys2Proof.Machine
end

section
/-! The fetches of a step (spec/20_memory.md R201, R209): the opcode byte, then the operand bytes its length announces,
each at PC, which wraps at 2^16. -/

namespace Sys2Proof.Machine

theorem fetch8_in {s : State} (h : s.pc.toNat < s.cfg.memSize) :
    s.fetch8 = .ok (s.readByte s.pc.toNat, { s with pc := s.pc + 1 }) := by
  simp only [State.fetch8, State.read8_in h]; rfl

theorem fetch8_out {s : State} (h : s.cfg.memSize ≤ s.pc.toNat) :
    s.fetch8 = .error (.memoryOutOfRange s.pc.toNat) := by
  simp only [State.fetch8, State.read8_out h]; rfl

/-- A 16-bit fetch whose low byte is outside the buffer faults there (R209). -/
theorem fetch16_low_out {s : State} (h : s.cfg.memSize ≤ s.pc.toNat) :
    s.fetch16 = .error (.memoryOutOfRange s.pc.toNat) := by
  simp only [State.fetch16, fetch8_out h]; rfl

/-- A 16-bit fetch whose high byte alone is outside the buffer faults at that byte (R209). -/
theorem fetch16_high_out {s : State} (low : s.pc.toNat < s.cfg.memSize) (high : s.cfg.memSize ≤ (s.pc + 1).toNat) :
    s.fetch16 = .error (.memoryOutOfRange (s.pc + 1).toNat) := by
  have hhigh : State.fetch8 { s with pc := s.pc + 1 } = .error (.memoryOutOfRange (s.pc + 1).toNat) := fetch8_out high
  simp only [State.fetch16, fetch8_in low, bind, Except.bind, hhigh]

theorem fetchInstr_opcode_out {s : State} (h : s.cfg.memSize ≤ s.pc.toNat) :
    fetchInstr s = .error (.memoryOutOfRange s.pc.toNat) := by
  simp only [fetchInstr, fetch8_out h]; rfl

/-- A step whose fetch faults has that fault (R401, R1205). -/
theorem step_fetch_fault {s : State} {r : Fault} (hcalls : s.hostCalls = []) (hrun : s.status = .running)
    (h : fetchInstr s = .error r) : step s = .fault r := by
  simp only [step, nextOperation, hcalls, stepInstr, hrun, h, if_true]

section Operands
variable {s : State} (opcode : s.pc.toNat < s.cfg.memSize)
include opcode

/-- An instruction of two or three bytes whose first operand byte is outside the buffer (R217). -/
theorem fetchInstr_operand_out (length : 2 ≤ opLength (s.readByte s.pc.toNat))
    (h : s.cfg.memSize ≤ (s.pc + 1).toNat) : fetchInstr s = .error (.memoryOutOfRange (s.pc + 1).toNat) := by
  have h8 : State.fetch8 { s with pc := s.pc + 1 } = .error (.memoryOutOfRange (s.pc + 1).toNat) := fetch8_out h
  have h16 : State.fetch16 { s with pc := s.pc + 1 } = .error (.memoryOutOfRange (s.pc + 1).toNat) := fetch16_low_out h
  simp only [opLength] at length
  simp only [fetchInstr, fetch8_in opcode, bind, Except.bind]
  cases hshape : decodeOp (s.readByte s.pc.toNat) with
  | f1 i => simp [hshape] at length
  | f2 f => simp only [h8]
  | f3 f => simp only [h16]

/-- An instruction of three bytes whose last byte alone is outside the buffer (R217). -/
theorem fetchInstr_last_out (length : opLength (s.readByte s.pc.toNat) = 3) (operand : (s.pc + 1).toNat < s.cfg.memSize)
    (h : s.cfg.memSize ≤ (s.pc + 2).toNat) : fetchInstr s = .error (.memoryOutOfRange (s.pc + 2).toNat) := by
  have hpc : s.pc + 1 + 1 = s.pc + 2 := BitVec.add_assoc s.pc 1 1
  have h16 : State.fetch16 { s with pc := s.pc + 1 } = .error (.memoryOutOfRange (s.pc + 2).toNat) := by
    rw [← hpc] at h ⊢
    exact fetch16_high_out operand h
  simp only [opLength] at length
  simp only [fetchInstr, fetch8_in opcode, bind, Except.bind]
  cases hshape : decodeOp (s.readByte s.pc.toNat) with
  | f1 i => simp [hshape] at length
  | f2 f => simp [hshape] at length
  | f3 f => simp only [h16]

end Operands

/-- Settles O6: the step has the fault of the first byte of the instruction that is outside the buffer. -/
theorem fetchOutsideTheBufferFaults : Obligations.FetchOutsideTheBufferFaults := by
  intro s hcalls hrun
  refine ⟨fun h => ?_, fun opcode length h => ?_, fun opcode length operand h => ?_⟩
  · exact step_fetch_fault hcalls hrun (fetchInstr_opcode_out h)
  · exact step_fetch_fault hcalls hrun (fetchInstr_operand_out opcode length h)
  · exact step_fetch_fault hcalls hrun (fetchInstr_last_out opcode length operand h)

end Sys2Proof.Machine
end

section
/-! The protected region (spec/20_memory.md R203, R214): a write never lands at or below ROM_BOUNDARY, so nothing that
is built of writes changes a byte there. An instruction that is not listed as storing leaves memory alone, so only the
thirteen forms that store are looked at. -/

namespace Sys2Proof.Machine

/-- ROM_BOUNDARY is kept, and so is every byte at or below it. -/
structure RomKept (s t : State) : Prop where
  boundary : t.cfg.romBoundary = s.cfg.romBoundary
  rom : ∀ x, x ≤ s.cfg.romBoundary → t.readByte x = s.readByte x

/-- What writes neither memory nor the configuration keeps the protected region. -/
theorem RomKept.of_eq {s t : State} (hmem : t.mem = s.mem) (hcfg : t.cfg = s.cfg) : RomKept s t :=
  ⟨by rw [hcfg], fun x _ => by rw [State.readByte, State.readByte, hmem]⟩

/-- The same for an operation that answers `u`, which need not be written out. -/
theorem RomKept.of_ok {s t u : State} (h : (.ok u : Except Fault State) = .ok t) (hmem : u.mem = s.mem)
    (hcfg : u.cfg = s.cfg) : RomKept s t :=
  Except.ok.inj h ▸ of_eq hmem hcfg

theorem RomKept.trans {s t u : State} (h : RomKept s t) (h' : RomKept t u) : RomKept s u where
  boundary := h'.boundary.trans h.boundary
  rom x hx := (h'.rom x (h.boundary.symm ▸ hx)).trans (h.rom x hx)

theorem MemStep.romKept {s t : State} (h : MemStep s t) : RomKept s t := ⟨by rw [h.cfg_eq], h.rom⟩

/-! ## The shared operations that store -/

section SharedOps
variable {s t : State}

theorem resolvePair_romKept (s : State) (p : Pair) : RomKept s (s.resolvePair p).2 :=
  .of_eq (s.resolvePair_mem p) (s.resolvePair_cfg p)

theorem writeThrough_romKept {p : Pair} {val : State → Byte} (h : s.writeThrough p val = .ok t) : RomKept s t :=
  (resolvePair_romKept s p).trans (State.write8_ok h).romKept

theorem write16_romKept {a : Nat} {v : Word} (h : s.write16 a v = .ok t) : RomKept s t := by
  obtain ⟨u, hu, ht⟩ := bind_eq_ok.1 h
  exact ((State.write8_ok hu).trans (State.write8_ok ht)).romKept

theorem push16_romKept {w : Word} (h : s.push16 w = .ok t) : RomKept s t :=
  have lowered : RomKept s { s with sp := s.sp - 2 } := .of_eq rfl rfl
  lowered.trans (State.push16_ok h).romKept

theorem callTo_romKept {w : Word} (h : callTo w s = .ok t) : RomKept s t := by
  obtain ⟨u, hu, ht⟩ := bind_eq_ok.1 h
  exact (push16_romKept hu).trans (.of_ok ht rfl rfl)

theorem enterVector_romKept {n : Nat} (h : s.enterVector n = .ok t) : RomKept s t := by
  obtain ⟨u, hu, ht⟩ := bind_eq_ok.1 h
  exact (push16_romKept hu).trans (.of_ok ht rfl rfl)

/-- INR M and DCR M: the resolver, the flags, then one write (R613, R615). -/
theorem modifyM_romKept {op : Byte → Flags → Byte × Flags} (h : modifyM op s = .ok t) : RomKept s t := by
  obtain ⟨v, -, ht⟩ := bind_eq_ok.1 h
  have flagged : RomKept (s.resolvePair .hl).2
      { (s.resolvePair .hl).2 with flags := (op v (s.resolvePair .hl).2.flags).2 } := .of_eq rfl rfl
  exact ((resolvePair_romKept s .hl).trans flagged).trans (State.write8_ok ht).romKept

/-- XTHL: two writes, then two registers (R808). -/
theorem exchangeTop_romKept (h : exchangeTop s = .ok t) : RomKept s t := by
  obtain ⟨lo, -, h⟩ := bind_eq_ok.1 h
  obtain ⟨hi, -, h⟩ := bind_eq_ok.1 h
  obtain ⟨u, hu, h⟩ := bind_eq_ok.1 h
  obtain ⟨v, hv, ht⟩ := bind_eq_ok.1 h
  exact ((State.write8_ok hu).trans (State.write8_ok hv)).romKept.trans (.of_ok ht rfl rfl)

end SharedOps

/-! ## Every instruction -/

/-- A listed instruction stores through the write of R202 only. -/
theorem Stores.romKept {i : Instr} (hi : Stores i) {s t : State} (h : exec i s = .next t) : RomKept s t := by
  have completed {op : State → Except Fault State} (hm : Meaning i op) : op s = .ok t :=
    finish_next.1 (hm.exec_eq s ▸ h)
  cases hi with
  | movMR r => exact writeThrough_romKept (completed (.movMR r) :)
  | mviM v => exact writeThrough_romKept (completed (.mviM v) :)
  | stax p => exact writeThrough_romKept (completed (.stax p) :)
  | sta w => exact (State.write8_ok (completed (.sta w) :)).romKept
  | shld w => exact write16_romKept (completed (.shld w) :)
  | inrM => exact modifyM_romKept (completed .inrM :)
  | dcrM => exact modifyM_romKept (completed .dcrM :)
  | push p => exact push16_romKept (completed (.push p) :)
  | pushPSW => exact push16_romKept (completed .pushPSW :)
  | xthl => exact exchangeTop_romKept (completed .xthl :)
  | call w => exact callTo_romKept (completed (.call w) :)
  | rst n => exact enterVector_romKept (completed (.rst n) :)
  | ccc cc w =>
    have called := completed (.ccc cc w)
    simp only [callIf] at called
    split at called
    · exact callTo_romKept called
    · exact .of_ok called rfl rfl

/-- R203, R213: an instruction stores as the listed ones do, or writes no memory. -/
theorem exec_romKept {i : Instr} {s t : State} (h : exec i s = .next t) : RomKept s t := by
  by_cases hi : Stores i
  · exact hi.romKept h
  · exact .of_eq ((exec_writes h).frame fun _ _ hw => hw.mem_eq hi) (exec_storeKept h).cfg

/-! ## The step and the host's operations -/

theorem stepInstr_romKept {s t : State} (h : stepInstr s = .next t) : RomKept s t := by
  obtain ⟨-, op, i, s1, s2, hfetch, hexec, rfl⟩ := stepInstr_next h
  have fetched : RomKept s s1 := by rw [fetchInstr_ok hfetch]; exact .of_eq rfl rfl
  have completed : RomKept s2 (completeStep (cycleCostOf s.cfg op) s2) :=
    .of_eq (by simp [completeStep]) (by simp [completeStep])
  exact (fetched.trans (exec_romKept hexec)).trans completed

/-- An interrupt stores the two bytes of its push only (R1209). -/
theorem generateInterrupt_romKept {s t : State} (h : generateInterrupt s = .next t) : RomKept s t := by
  obtain ⟨v, -, htake⟩ | ⟨-, rfl⟩ := generateInterrupt_next h
  · obtain ⟨u, hu, ht⟩ := bind_eq_ok.1 htake
    exact (enterVector_romKept hu).trans (.of_ok ht rfl rfl)
  · exact .of_eq rfl rfl

theorem hostCall_romKept {c : HostCall} {s t : State} (h : hostCall c s = .next t) : RomKept s t := by
  cases c with
  | step => exact stepInstr_romKept h
  | setVector n =>
    obtain ⟨v, -, rfl⟩ := setVector_next h
    exact .of_eq rfl rfl
  | generateInterrupt => exact generateInterrupt_romKept h

theorem step_romKept {s t : State} (h : step s = .next t) : RomKept s t := by
  cases hq : s.hostCalls with
  | nil =>
    simp only [step, nextOperation, hq] at h
    exact stepInstr_romKept h
  | cons c cs =>
    simp only [step, nextOperation, hq] at h
    have dequeued : RomKept s { s with hostCalls := cs } := .of_eq rfl rfl
    exact dequeued.trans (hostCall_romKept h)

/-- Settles O20: every operation of the host keeps the protected region. -/
theorem protectedRegionNeverChanges : Obligations.ProtectedRegionNeverChanges :=
  fun _ _ x h hx => (step_romKept h).rom x hx

end Sys2Proof.Machine
end

section
/-! The round trip of the decoder and the encoder (spec/30_encoding.md R301, R306, R307, R311). An opcode byte and
operand bytes announce the instruction that the opcode map gives them. One direction of the round trip is that every
instruction is announced by its own encoding, a case split over the forms of instruction; the other is that every entry
of the map is encoded by its place, a check of the map. -/

namespace Sys2Proof.Machine

/-- The opcode byte `op` followed by the operand bytes is the instruction (R301, R306: low byte first). -/
inductive Announces (op : Byte) : Instr → List Byte → Prop
  | f1 {i : Instr} (h : decodeOp op = .f1 i) : Announces op i []
  | f2 {f : Byte → Instr} (h : decodeOp op = .f2 f) (v : Byte) : Announces op (f v) [v]
  | f3 {f : Word → Instr} (h : decodeOp op = .f3 f) (lo hi : Byte) : Announces op (f (cat hi lo)) [lo, hi]

/-- The decoder answers an instruction exactly when the head of the bytes announces it. -/
theorem decode_eq_ok {bs rest : List Byte} {i : Instr} :
    decode bs = .ok (i, rest) ↔ ∃ op operands, Announces op i operands ∧ bs = op :: operands ++ rest := by
  constructor
  · intro h
    cases bs with
    | nil => cases h
    | cons op tail =>
      simp only [decode] at h
      split at h <;> cases h
      case h_1 hshape => exact ⟨op, [], .f1 hshape, rfl⟩
      case h_2 v hshape => exact ⟨op, [v], .f2 hshape v, rfl⟩
      case h_4 lo hi hshape => exact ⟨op, [lo, hi], .f3 hshape lo hi, rfl⟩
  · rintro ⟨op, operands, announced, rfl⟩
    cases announced with
    | f1 h => simp [decode, h]
    | f2 h v => simp [decode, h]
    | f3 h lo hi => simp [decode, h]

/-! ## From the instruction to its bytes

The opcode byte does not depend on the operand, so an entry is looked up once, for the operand 0. -/

theorem Announces.byte {f : Byte → Instr} (entry : decodeOp (f 0).opcode = .f2 f)
    (same : ∀ v, (f v).opcode = (f 0).opcode) (v : Byte) : Announces (f v).opcode (f v) [v] := by
  rw [same v]; exact .f2 entry v

/-- A 16-bit operand is announced with its own two bytes (R6, R7). -/
theorem Announces.word {f : Word → Instr} (entry : decodeOp (f 0).opcode = .f3 f)
    (same : ∀ w, (f w).opcode = (f 0).opcode) (w : Word) : Announces (f w).opcode (f w) [lo8 w, hi8 w] := by
  have announced : Announces (f 0).opcode (f (cat (hi8 w) (lo8 w))) [lo8 w, hi8 w] := .f3 entry _ _
  rwa [cat_hi8_lo8, ← same w] at announced

/-- R307: the opcode that the fields of an instruction's form give (R302 to R305) has the instruction's entry in the
map, and its operand bytes are those of the entry. -/
theorem announces_encoding (i : Instr) : Announces i.opcode i i.operandBytes := by
  obtain ⟨_, form⟩ := exists_meaning i
  cases form with
  | nop | inrM | dcrM | daa | rlc | rrc | ral | rar | cma | stc | cmc | xchg | pushPSW | popPSW | xthl | sphl | pchl
  | ret | hlt | ei | di => exact .f1 rfl
  | movRR dst src => cases dst <;> cases src <;> exact .f1 rfl
  | movRM r | movMR r | inrR r | dcrR r => cases r <;> exact .f1 rfl
  | alu o x =>
    cases x with
    | reg r => cases o <;> cases r <;> exact .f1 rfl
    | m => cases o <;> exact .f1 rfl
  | inx p | dcx p | dad p | ldax p | stax p | push p | pop p => cases p <;> exact .f1 rfl
  | rst n => cases n <;> exact .f1 rfl
  | rcc cc => cases cc <;> exact .f1 rfl
  | unimpl o => cases o <;> exact .f1 rfl
  | mviM v | inp v | out v => exact .byte rfl (fun _ => rfl) v
  | mviR dst v => cases dst <;> exact .byte rfl (fun _ => rfl) v
  | aluI o v => cases o <;> exact .byte rfl (fun _ => rfl) v
  | lda w | sta w | lhld w | shld w | jmp w | call w => exact .word rfl (fun _ => rfl) w
  | lxi p w => cases p <;> exact .word rfl (fun _ => rfl) w
  | jcc cc w | ccc cc w => cases cc <;> exact .word rfl (fun _ => rfl) w

/-- Settles O14: the decoder reads an instruction off its encoding because the instruction's opcode announces it. -/
theorem decodeOfEncodeIsTheInstruction : Obligations.DecodeOfEncodeIsTheInstruction :=
  fun i _ => decode_eq_ok.2 ⟨i.opcode, i.operandBytes, announces_encoding i, rfl⟩

/-! ## From the bytes to the instruction -/

/-- The encoding of a map entry's instruction, for every operand, is `op` and the operand's bytes (R301, R306). -/
def EncodesAs (op : Byte) : Shape → Prop
  | .f1 i => encode i = [op]
  | .f2 f => encode ∘ f = fun v => [op, v]
  | .f3 f => encode ∘ f = fun w => [op, lo8 w, hi8 w]

/-- R307: the entry in row `high` and column `low` of the map has that place as its opcode. Each of the 256 entries is
evaluated with its operand as a variable, so it is checked for every operand at once. -/
theorem opMap_encodesAs (high low : Fin 16) :
    EncodesAs (BitVec.ofNat 8 (high * 16 + low)) ((opMap.getD high []).getD low (.f1 .unimpl08)) := by
  fin_cases high <;> fin_cases low <;> exact rfl

theorem decodeOp_encodesAs (op : Byte) : EncodesAs op (decodeOp op) := by
  have row : op.toNat / 16 < 16 := Nat.div_lt_of_lt_mul op.isLt
  have column : op.toNat % 16 < 16 := Nat.mod_lt _ (by decide)
  have entry := opMap_encodesAs ⟨_, row⟩ ⟨_, column⟩
  rwa [Nat.div_add_mod', BitVec.ofNat_toNat, BitVec.setWidth_eq] at entry

/-- The bytes that announce an instruction are its encoding. -/
theorem Announces.encode_eq {op : Byte} {i : Instr} {operands : List Byte} (h : Announces op i operands) :
    encode i = op :: operands := by
  have entry := decodeOp_encodesAs op
  cases h with
  | f1 hshape => rwa [hshape] at entry
  | f2 hshape v => rw [hshape] at entry; exact congrFun entry v
  | f3 hshape lo hi => rw [hshape] at entry; simpa using congrFun entry (cat hi lo)

/-- Settles O15: the head that the decoder read announces the instruction, so it is the instruction's encoding. -/
theorem encodeOfDecodeIsTheBytes : Obligations.EncodeOfDecodeIsTheBytes := by
  intro bs rest i h
  obtain ⟨op, operands, announced, rfl⟩ := decode_eq_ok.1 h
  rw [announced.encode_eq]

/-- Settles O16: the decoder run on each word. -/
theorem sampleWordsDecode : Obligations.SampleWordsDecode :=
  ⟨rfl, rfl, rfl, rfl, rfl, rfl, rfl, rfl, rfl, rfl, rfl⟩

end Sys2Proof.Machine
end

section
/-! The ALU (spec/40_dispatch_alu.md R406 to R410): the primitives meet the result rules of the spec, and the register
and memory forms put their answers into A and the flags. -/

namespace Sys2Proof.Machine

/-! ## The flags of a result -/

/-- R7, R406: the parity of an exact result is that of the byte it is narrowed to. -/
theorem popcount8_eq_ones (r : Nat) : popcount8 r = ones (BitVec.ofNat 8 r) := by
  rw [popcount8, ones, ← List.map_coe_finRange_eq_range, List.countP_map, List.countP_eq_length_filter]
  congr 2
  funext i
  simp [BitVec.getLsb, Nat.testBit_mod_two_pow (j := 8)]

/-- R406: Z, S and P of an exact result are those of the byte it is narrowed to. -/
theorem computeFlags_resultFlags (r : Nat) (f : Flags) : ResultFlags (BitVec.ofNat 8 r) (computeFlags r f) := by
  refine ⟨?_, ?_, ?_⟩
  · simp [computeFlags, ← BitVec.toNat_inj]
  · simp only [computeFlags, Nat.testBit_eq_decide_div_mod_eq, BitVec.toNat_ofNat, decide_eq_true_eq]
    omega
  · simp [computeFlags, popcount8_eq_ones]

theorem computeFlags_toNat_resultFlags (r : Byte) (f : Flags) : ResultFlags r (computeFlags r.toNat f) := by
  simpa using computeFlags_resultFlags r.toNat f

/-- R407: bit 4 of the XOR of two operands and their sum is the carry out of bit 3. -/
theorem aux_add (a b c : Nat) (hc : c ≤ 1) : aux a b (a + b + c) = true ↔ 16 ≤ a % 16 + b % 16 + c := by
  have bit4 (x : Nat) : x.testBit 4 = true ↔ x / 16 % 2 = 1 := by simp [Nat.testBit_eq_decide_div_mod_eq]
  simp only [aux, Nat.testBit_xor, bne_iff_ne, ne_eq, Bool.eq_iff_iff (b := Nat.testBit _ 4), bit4]
  omega

/-! ## The primitives -/

theorem add8_sumRule (a b : Byte) (c : Bool) (f : Flags) :
    SumRule a b c (add8 a b c f).1 (add8 a b c f).2 := by
  refine ⟨BitVec.toNat_ofNat _ _, computeFlags_resultFlags _ f, ?_, aux_add _ _ _ c.toNat_le⟩
  simp only [add8, computeFlags, decide_eq_true_eq]
  omega

/-- R409: adding the ones' complement and the inverted borrow is the subtraction, with CY and AC read as borrows. -/
theorem sub8_diffRule (a b : Byte) (c : Bool) (f : Flags) :
    DiffRule a b c (sub8 a b c f).1 (sub8 a b c f).2 := by
  have hb := b.isLt
  have hc := c.toNat_le
  refine ⟨?_, computeFlags_resultFlags _ f, ?_, ?_⟩
  · simp only [sub8, BitVec.toNat_ofNat]
    omega
  · simp only [sub8, computeFlags, Bool.not_eq_true', decide_eq_false_iff_not]
    omega
  · simp only [sub8, aux_add _ _ _ (Nat.sub_le 1 _)]
    omega

/-- R600 to R611, R700 to R711: each ALU operation meets its rule. -/
theorem aluValue_rule (o : AluOp) (a v : Byte) (f : Flags) :
    AluRule o a v f (aluValue o a v f).1 (aluValue o a v f).2 := by
  cases o with
  | add => exact add8_sumRule a v false f
  | adc => exact add8_sumRule a v f.cy f
  | sub => exact sub8_diffRule a v false f
  | sbb => exact sub8_diffRule a v f.cy f
  | ana =>
    refine ⟨?_, computeFlags_toNat_resultFlags _ f, rfl, ?_⟩
    · simp [aluValue, and8, BitVec.getLsb]
    · simp [aluValue, and8, BitVec.getLsb, BitVec.getLsbD]
  | xra => exact ⟨by simp [aluValue, xor8, BitVec.getLsb], computeFlags_toNat_resultFlags _ f, rfl, rfl⟩
  | ora => exact ⟨by simp [aluValue, or8, BitVec.getLsb], computeFlags_toNat_resultFlags _ f, rfl, rfl⟩
  | cmp => exact ⟨rfl, _, sub8_diffRule a v false f⟩

/-! ## The instructions -/

theorem applyAlu_registersAndFlagsOnly (o : AluOp) (v : Byte) (s : State) :
    RegistersAndFlagsOnly [.a] s (applyAlu o v s) where
  regs r hr := by
    cases r with
    | a => exact absurd (List.mem_singleton_self _) hr
    | _ => rfl
  ie := rfl
  ivec := rfl
  status := rfl
  cyc := rfl
  cfg := rfl
  portAnswers := rfl
  inCount := rfl
  outTrace := rfl
  hostCalls := rfl
  sp := rfl
  pc := rfl
  memory _ := rfl

theorem exec_alu_reg (o : AluOp) (r : Reg) (s : State) :
    exec (.alu o (.reg r)) s = .next (applyAlu o (s.reg r) s) :=
  (Meaning.alu o (.reg r)).exec_eq s

/-- The operand M is read, and A and the flags are taken, after the resolver (R207, R410). -/
theorem exec_alu_m (o : AluOp) {s : State} (h : 0 < s.cfg.memSize) :
    exec (.alu o .m) s = .next (applyAlu o (s.readByte (s.resolvePair .hl).1) (s.resolvePair .hl).2) := by
  rw [(Meaning.alu o .m).exec_eq, finish_next]
  simp only [aluSrc, State.operandS, State.readThrough_ok .hl h]
  rfl

/-- Settles O28: a register form applies the operation to the register's value, and the operation meets its rule. -/
theorem aluRegisterFormsFollowTheirRules : Obligations.AluRegisterFormsFollowTheirRules := fun o r s =>
  ⟨applyAlu o (s.reg r) s, exec_alu_reg o r s, aluValue_rule o s.a (s.reg r) s.flags,
    applyAlu_registersAndFlagsOnly o (s.reg r) s⟩

/-- Settles O29: the resolver writes neither A nor a flag, so the operation's rule is about those of before. -/
theorem aluMemoryFormsFollowTheirRules : Obligations.AluMemoryFormsFollowTheirRules := by
  intro o s h
  refine ⟨_, exec_alu_m o h, ?_, applyAlu_registersAndFlagsOnly ..⟩
  have rule := aluValue_rule o s.a (s.readByte (s.resolvePair .hl).1) s.flags
  simpa [applyAlu] using rule

end Sys2Proof.Machine
end

section
/-! The step (spec/40_dispatch_alu.md R400 to R405): the fetch, what follows the meaning, and the refusal. -/

namespace Sys2Proof.Machine

/-- The cost and the two guards, field by field (R402 to R405). -/
theorem completeStep_eq (n : Nat) (s : State) :
    completeStep n s =
      { s with cyc := s.cyc + n
               sp := if s.sp.toNat < s.cfg.romBoundary ∨ s.cfg.memSize < s.sp.toNat then 0 else s.sp
               pc := if s.cfg.memSize < s.pc.toNat then 0 else s.pc } := by
  simp only [completeStep, stackGuard]
  split <;> simp only [pcGuard] <;> split <;> rfl

/-! ## A completed step -/

/-- The opcode of a fetched instruction is the byte at PC (R401). -/
theorem fetchInstr_opcode {s s1 : State} {op : Byte} {i : Instr} (h : fetchInstr s = .ok (op, i, s1)) :
    op = s.readByte s.pc.toNat := by
  by_cases backed : s.pc.toNat < s.cfg.memSize
  · simp only [fetchInstr, fetch8_in backed, bind, Except.bind] at h
    split at h
    · cases h; rfl
    · split at h <;> cases h; rfl
    · split at h <;> cases h; rfl
  · rw [fetchInstr_opcode_out (Nat.not_lt.1 backed)] at h
    cases h

/-- Settles O9: the fetch moves PC only and no meaning writes CYC, so what CYC gains is the cost. -/
theorem completedStepAddsTheOpcodesCost : Obligations.CompletedStepAddsTheOpcodesCost := by
  intro s t h
  obtain ⟨-, op, i, s1, s2, hfetch, hexec, rfl⟩ := stepInstr_next h
  have fetched : s1.cyc = s.cyc := by rw [fetchInstr_ok hfetch]
  obtain ⟨-, executed, -⟩ := controlStateHasOnlyItsListedWriters i s1 s2 hexec
  rw [completeStep_eq, executed, fetched, fetchInstr_opcode hfetch]
  rfl

/-! ## A step of a running core -/

/-- A 16-bit fetch whose two bytes are in the buffer answers them, low byte first (R209, R306). -/
theorem fetch16_in {s : State} (low : s.pc.toNat < s.cfg.memSize) (high : (s.pc + 1).toNat < s.cfg.memSize) :
    s.fetch16 =
      .ok (cat (s.readByte (s.pc + 1).toNat) (s.readByte s.pc.toNat), { s with pc := s.pc + 1 + 1 }) := by
  have hhigh : State.fetch8 { s with pc := s.pc + 1 } = .ok _ := fetch8_in high
  simp only [State.fetch16, fetch8_in low, bind, Except.bind, hhigh]
  rfl

/-- The fetch reads the instruction that the bytes at PC announce, and leaves PC past them (R209, R217, R301). -/
theorem fetchInstr_of_announces {s : State} {op : Byte} {i : Instr} {operands : List Byte}
    (announced : Announces op i operands) (bytes : s.BytesAtPc (op :: operands) s.pc) :
    fetchInstr s = .ok (op, i, { s with pc := s.pc + BitVec.ofNat 16 (op :: operands).length }) := by
  obtain ⟨opcode, rfl, rest⟩ := bytes
  simp only [fetchInstr, fetch8_in opcode, bind, Except.bind]
  cases announced with
  | f1 h => simp [h]
  | f2 h v =>
    obtain ⟨operand, rfl, -⟩ := rest
    have h8 : State.fetch8 { s with pc := s.pc + 1 } = .ok _ := fetch8_in operand
    simp only [h, h8, BitVec.add_assoc]
    rfl
  | f3 h lo hi =>
    obtain ⟨low, rfl, high, rfl, -⟩ := rest
    have h16 : State.fetch16 { s with pc := s.pc + 1 } = .ok _ := fetch16_in low high
    simp only [h, h16, BitVec.add_assoc]
    rfl

/-- A step of a running core is the meaning of the fetched instruction, then its cost and the guards (R401, R405). -/
theorem stepInstr_of_fetch {s s1 : State} {op : Byte} {i : Instr} (running : s.status = .running)
    (h : fetchInstr s = .ok (op, i, s1)) :
    stepInstr s = mapNext (completeStep (cycleCostOf s.cfg op)) (exec i s1) := by
  simp only [stepInstr, running, h, if_true]
  cases exec i s1 <;> rfl

/-- Settles O4: the bytes that decode to an instruction announce it, so it is the one that the step fetches. -/
theorem stepRunsTheDecodedInstruction : Obligations.StepRunsTheDecodedInstruction := by
  intro s bs i answer running decoded bytes hanswer
  obtain ⟨op, operands, announced, rfl⟩ := decode_eq_ok.1 decoded
  rw [List.append_nil] at bytes hanswer
  have stepped : stepInstr s = answer := by
    rw [stepInstr_of_fetch running (fetchInstr_of_announces announced bytes), hanswer, funext (completeStep_eq _)]
    cases exec i _ <;> rfl
  refine ⟨stepped, fun hcalls => ?_⟩
  rw [step, nextOperation, hcalls]
  exact stepped

/-! ## A core that is not running -/

/-- Settles O7: each operation of the host tests STATUS first. -/
theorem nothingIsAdmittedUnlessRunning : Obligations.NothingIsAdmittedUnlessRunning := by
  intro s c stopped
  cases c <;> exact if_neg stopped

end Sys2Proof.Machine
end

section
/-! CYC and the cost table, which nothing reads but the step's own accounting (spec/40_dispatch_alu.md R421). An
operation run with both set aside has the answer that it has anyway, with both set aside in the state it leaves; so two
states that agree once both are set aside have the same answers. -/

namespace Sys2Proof.Machine

/-- A function maps the answer of a sequence of two operations when each of the two answers is mapped. -/
theorem bind_map_of_eq {α β α' β' : Type} {x : Except Fault α} {x' : Except Fault α'} {f : α → Except Fault β}
    {f' : α' → Except Fault β'} {k : α → α'} {g : β → β'} (hx : x' = x.map k) (hf : ∀ a, f' (k a) = (f a).map g) :
    x' >>= f' = (x >>= f).map g :=
  hx ▸ bind_map hf

/-- An answer's next state is mapped as the operation's own state is. -/
theorem mapNext_finish (f : State → State) (r : Except Fault State) : mapNext f (finish r) = finish (r.map f) := by
  cases r <;> rfl

section WithoutCosts
variable (s : State)

/-! ## The shared operations -/

theorem withoutCosts_reg (r : Reg) : (withoutCosts s).reg r = s.reg r := by cases r <;> rfl

theorem withoutCosts_pair (p : Pair) : (withoutCosts s).pair p = s.pair p := by cases p <;> rfl

theorem withoutCosts_setReg (r : Reg) (v : Byte) :
    (withoutCosts s).setReg r v = withoutCosts (s.setReg r v) := by cases r <;> rfl

theorem withoutCosts_setPair (p : Pair) (w : Word) :
    (withoutCosts s).setPair p w = withoutCosts (s.setPair p w) := by cases p <;> rfl

/-- The write reads the configuration's addresses only (R202). -/
theorem withoutCosts_write8 (a : Nat) (v : Byte) :
    (withoutCosts s).write8 a v = (s.write8 a v).map withoutCosts := by
  have hremap : (withoutCosts s).remap a = s.remap a := rfl
  have hrom : (withoutCosts s).cfg.romBoundary = s.cfg.romBoundary := rfl
  have hsize : (withoutCosts s).cfg.memSize = s.cfg.memSize := rfl
  simp only [State.write8, hremap, hrom, hsize]
  split
  · rfl
  · split <;> rfl

theorem withoutCosts_resolvePair (p : Pair) :
    (withoutCosts s).resolvePair p = (s.resolvePair p).map id withoutCosts := by
  have hsize : (withoutCosts s).cfg.memSize = s.cfg.memSize := rfl
  simp only [State.resolvePair, withoutCosts_pair, withoutCosts_setPair, hsize]
  split <;> rfl

theorem withoutCosts_readThrough (p : Pair) :
    (withoutCosts s).readThrough p = (s.readThrough p).map (Prod.map id withoutCosts) := by
  simp only [State.readThrough, withoutCosts_resolvePair]
  exact bind_map_same (x := (s.resolvePair p).2.read8 (s.resolvePair p).1) fun _ => rfl

theorem withoutCosts_operandS (x : Src) :
    (withoutCosts s).operandS x = (s.operandS x).map (Prod.map id withoutCosts) := by
  cases x with
  | reg r => simp only [State.operandS, withoutCosts_reg]; rfl
  | m => exact withoutCosts_readThrough s .hl

theorem withoutCosts_writeThrough (p : Pair) {val : State → Byte} (hval : ∀ u, val (withoutCosts u) = val u) :
    (withoutCosts s).writeThrough p val = (s.writeThrough p val).map withoutCosts := by
  simp only [State.writeThrough, withoutCosts_resolvePair, Prod.map, id, hval]
  exact withoutCosts_write8 ..

theorem withoutCosts_write16 (a : Nat) (v : Word) :
    (withoutCosts s).write16 a v = (s.write16 a v).map withoutCosts :=
  bind_map_of_eq (withoutCosts_write8 s a (lo8 v)) fun u => withoutCosts_write8 u _ _

theorem withoutCosts_push16 (w : Word) : (withoutCosts s).push16 w = (s.push16 w).map withoutCosts :=
  bind_map_of_eq (withoutCosts_write8 { s with sp := s.sp - 2 } ((s.sp - 2).toNat + 1) (hi8 w)) fun u =>
    withoutCosts_write8 u _ _

theorem withoutCosts_pop16 : (withoutCosts s).pop16 = s.pop16.map (Prod.map id withoutCosts) :=
  bind_map_same (x := s.read8 s.sp.toNat) fun _ => bind_map_same (x := s.read8 (s.sp.toNat + 1)) fun _ => rfl

theorem withoutCosts_callTo (w : Word) : callTo w (withoutCosts s) = (callTo w s).map withoutCosts :=
  bind_map_of_eq (withoutCosts_push16 s s.pc) fun _ => rfl

theorem withoutCosts_enterVector (n : Nat) :
    (withoutCosts s).enterVector n = (s.enterVector n).map withoutCosts :=
  bind_map_of_eq (withoutCosts_push16 s s.pc) fun _ => rfl

theorem withoutCosts_returnFrom : (withoutCosts s).returnFrom = s.returnFrom.map withoutCosts :=
  bind_map_of_eq (withoutCosts_pop16 s) fun _ => rfl

/-- INR M and DCR M (R613, R615). -/
theorem withoutCosts_modifyM (op : Byte → Flags → Byte × Flags) :
    modifyM op (withoutCosts s) = (modifyM op s).map withoutCosts := by
  simp only [modifyM, withoutCosts_resolvePair]
  exact bind_map_same (x := (s.resolvePair .hl).2.read8 (s.resolvePair .hl).1) fun x =>
    withoutCosts_write8 { (s.resolvePair .hl).2 with flags := (op x (s.resolvePair .hl).2.flags).2 } _ _

/-- XTHL (R808). -/
theorem withoutCosts_exchangeTop : exchangeTop (withoutCosts s) = (exchangeTop s).map withoutCosts :=
  bind_map_same (x := s.read8 s.sp.toNat) fun _ =>
  bind_map_same (x := s.read8 (s.sp.toNat + 1)) fun _ =>
  bind_map_of_eq (withoutCosts_write8 s s.sp.toNat s.l) fun u =>
  bind_map_of_eq (withoutCosts_write8 u (s.sp.toNat + 1) s.h) fun _ => rfl

/-- IN (R1000). -/
theorem withoutCosts_inputPort (p : Byte) : inputPort p (withoutCosts s) = (inputPort p s).map withoutCosts := by
  have hq : (withoutCosts s).portAnswers = s.portAnswers := rfl
  simp only [inputPort, State.portIn, hq]
  cases s.portAnswers <;> rfl

/-! ## Every instruction -/

/-- R421: a meaning has the same outcome whatever CYC and the cost table hold. -/
theorem Meaning.withoutCosts_comm {i : Instr} {op : State → Except Fault State} (hm : Meaning i op) :
    op (withoutCosts s) = (op s).map withoutCosts := by
  cases hm with
  -- forms that write single fields
  | nop | xchg | aluI | daa | rlc | rrc | ral | rar | cma | stc | cmc | sphl | jmp | pchl | out | hlt | ei | di
  | unimpl => rfl
  | inp p => exact withoutCosts_inputPort s p
  -- forms that write registers through the model's setters
  | movRR r | mviR r | inrR r | dcrR r => cases r <;> rfl
  | lxi p | inx p | dcx p | dad p => cases p <;> rfl
  -- forms that read memory and then write registers
  | lda w => exact bind_map_same (x := s.read8 w.toNat) fun _ => rfl
  | lhld w => exact bind_map_same (x := s.read16 w.toNat) fun _ => rfl
  | movRM dst =>
    exact bind_map_of_eq (withoutCosts_readThrough s .hl) fun x =>
      congrArg Except.ok (withoutCosts_setReg x.2 dst x.1)
  | ldax p => exact bind_map_of_eq (withoutCosts_readThrough s (idxPair p)) fun _ => rfl
  | alu o x => exact bind_map_of_eq (withoutCosts_operandS s x) fun _ => rfl
  | pop p =>
    exact bind_map_of_eq (withoutCosts_pop16 s) fun x => congrArg Except.ok (withoutCosts_setPair x.2 p x.1)
  | popPSW => exact bind_map_of_eq (withoutCosts_pop16 s) fun _ => rfl
  -- forms that store
  | movMR r => exact withoutCosts_writeThrough s .hl fun u => withoutCosts_reg u r
  | mviM | stax => exact withoutCosts_writeThrough s _ fun _ => rfl
  | sta w => exact withoutCosts_write8 s w.toNat s.a
  | shld w => exact withoutCosts_write16 s w.toNat (s.pair .hl)
  | inrM | dcrM => exact withoutCosts_modifyM s _
  | push p => simp only [pushPair, withoutCosts_pair, withoutCosts_push16]
  | pushPSW => exact withoutCosts_push16 s (cat s.a (packFlags s.cfg.psw s.flags))
  | xthl => exact withoutCosts_exchangeTop s
  -- branches: the condition is read from the flags, and each way commutes
  | call w => exact withoutCosts_callTo s w
  | rst n => exact withoutCosts_enterVector s (rstNumber n)
  | ret => exact withoutCosts_returnFrom s
  | jcc =>
    simp only [jumpIf, apply_ite (Except.map withoutCosts)]
    rfl
  | ccc =>
    simp only [callIf, apply_ite (Except.map withoutCosts), withoutCosts_callTo]
    rfl
  | rcc =>
    simp only [returnIf, apply_ite (Except.map withoutCosts), withoutCosts_returnFrom]
    rfl

theorem withoutCosts_exec (i : Instr) : exec i (withoutCosts s) = mapNext withoutCosts (exec i s) := by
  obtain ⟨op, hm⟩ := exists_meaning i
  rw [hm.exec_eq, hm.exec_eq, mapNext_finish, hm.withoutCosts_comm]

/-! ## The step -/

theorem withoutCosts_fetch8 : (withoutCosts s).fetch8 = s.fetch8.map (Prod.map id withoutCosts) :=
  bind_map_same (x := s.read8 s.pc.toNat) fun _ => rfl

theorem withoutCosts_fetch16 : (withoutCosts s).fetch16 = s.fetch16.map (Prod.map id withoutCosts) :=
  bind_map_of_eq (withoutCosts_fetch8 s) fun x => bind_map_of_eq (withoutCosts_fetch8 x.2) fun _ => rfl

theorem withoutCosts_fetchInstr :
    fetchInstr (withoutCosts s) = (fetchInstr s).map (Prod.map id (Prod.map id withoutCosts)) := by
  refine bind_map_of_eq (withoutCosts_fetch8 s) fun ⟨op, u⟩ => ?_
  simp only [Prod.map, id]
  cases decodeOp op with
  | f1 i => rfl
  | f2 f => exact bind_map_of_eq (withoutCosts_fetch8 u) fun _ => rfl
  | f3 f => exact bind_map_of_eq (withoutCosts_fetch16 u) fun _ => rfl

/-- Another cost, on another count, is seen in CYC only (R402, R405). -/
theorem withoutCosts_completeStep (m n : Nat) :
    withoutCosts (completeStep m (withoutCosts s)) = withoutCosts (completeStep n s) := by
  rw [completeStep_eq, completeStep_eq]; rfl

/-- The step reads the table for its own cost, and CYC to add the cost to it. -/
theorem withoutCosts_stepInstr :
    mapNext withoutCosts (stepInstr (withoutCosts s)) = mapNext withoutCosts (stepInstr s) := by
  have hstatus : (withoutCosts s).status = s.status := rfl
  simp only [stepInstr, withoutCosts_fetchInstr, hstatus]
  split
  · cases fetchInstr s with
    | error r => rfl
    | ok x =>
      simp only [Except.map, Prod.map, id, withoutCosts_exec]
      cases exec x.2.1 x.2.2 with
      | next t => exact congrArg Host.Outcome.next (withoutCosts_completeStep t _ _)
      | _ => rfl
  · rfl

/-! ## The host's operations -/

theorem withoutCosts_setVector (n : Nat) :
    mapNext withoutCosts (setVector n (withoutCosts s)) = mapNext withoutCosts (setVector n s) := by
  have hstatus : (withoutCosts s).status = s.status := rfl
  simp only [setVector, hstatus]
  split
  · cases vectorOf n <;> rfl
  · rfl

/-- An accepted interrupt adds its 11 cycles to whatever CYC holds (R1209). -/
theorem withoutCosts_takeInterrupt (v : IntVector) :
    (takeInterrupt v (withoutCosts s)).map withoutCosts = (takeInterrupt v s).map withoutCosts := by
  simp only [takeInterrupt, withoutCosts_enterVector]
  cases s.enterVector (vectorNumber v) <;> rfl

theorem withoutCosts_generateInterrupt :
    mapNext withoutCosts (generateInterrupt (withoutCosts s)) = mapNext withoutCosts (generateInterrupt s) := by
  have hstatus : (withoutCosts s).status = s.status := rfl
  have hie : (withoutCosts s).ie = s.ie := rfl
  have hivec : (withoutCosts s).ivec = s.ivec := rfl
  simp only [generateInterrupt, hstatus, hie, hivec]
  split
  · split
    · cases s.ivec with
      | none => rfl
      | some v => simp only [mapNext_finish, withoutCosts_takeInterrupt]
    · rfl
  · rfl

theorem withoutCosts_hostCall (c : HostCall) :
    mapNext withoutCosts (hostCall c (withoutCosts s)) = mapNext withoutCosts (hostCall c s) := by
  cases c with
  | step => exact withoutCosts_stepInstr s
  | setVector n => exact withoutCosts_setVector s n
  | generateInterrupt => exact withoutCosts_generateInterrupt s

end WithoutCosts

/-- Settles O59: the two states are the same state once their costs are set aside. -/
theorem costsAffectTheCycleCounterOnly : Obligations.CostsAffectTheCycleCounterOnly := fun s c _ _ =>
  (withoutCosts_hostCall _ c).symm.trans (withoutCosts_hostCall s c)

end Sys2Proof.Machine
end

section
/-! The answers of the 16-bit reads and writes of memory (spec/20_memory.md R208), and the frames of the register and
memory updates (spec/10_state.md R100, R102, R104): what each update leaves as it was. -/

namespace Sys2Proof.Machine

/-! ## The 16-bit accesses -/

/-- A 16-bit read whose two bytes are in the buffer answers them, low byte first (R208). -/
theorem State.read16_in {s : State} {a : Nat} (h : a + 1 < s.cfg.memSize) :
    s.read16 a = .ok (cat (s.readByte (a + 1)) (s.readByte a)) := by
  simp only [State.read16, State.read8_in (Nat.lt_of_succ_lt h), State.read8_in h]
  rfl

theorem State.read16_low_out {s : State} {a : Nat} (h : s.cfg.memSize ≤ a) :
    s.read16 a = .error (.memoryOutOfRange a) := by
  simp only [State.read16, State.read8_out h]
  rfl

theorem State.read16_high_out {s : State} {a : Nat} (h : a + 1 = s.cfg.memSize) :
    s.read16 a = .error (.memoryOutOfRange (a + 1)) := by
  simp only [State.read16, State.read8_in (show a < s.cfg.memSize by omega), State.read8_out h.ge]
  rfl

theorem State.afterWrite_congr {s t : State} (h : t.cfg = s.cfg) : t.afterWrite = s.afterWrite := by
  funext a v m x
  simp [State.afterWrite, State.remap_congr h, h]

theorem State.writable_congr {s t : State} (h : t.cfg = s.cfg) (a : Nat) : t.Writable a ↔ s.Writable a := by
  simp only [State.Writable, State.remap_congr h, h]

/-- A 16-bit write whose two bytes may land completes, with the low byte written first (R208). -/
theorem State.write16_writable {s : State} {a : Nat} (w : Word) (low : s.Writable a) (high : s.Writable (a + 1)) :
    ∃ t, s.write16 a w = .ok t ∧ MemStep s t ∧
      (Memory.wf s.mem → ∀ x, t.readByte x = s.afterWrite (a + 1) (hi8 w) (s.afterWrite a (lo8 w) s.readByte) x) := by
  obtain ⟨u, hu, storedLow, readLow⟩ := State.write8_writable (lo8 w) low
  obtain ⟨t, ht, storedHigh, readHigh⟩ :=
    State.write8_writable (hi8 w) ((State.writable_congr storedLow.cfg_eq (a + 1)).2 high)
  refine ⟨t, bind_eq_ok.2 ⟨u, hu, ht⟩, storedLow.trans storedHigh, fun hm x => ?_⟩
  rw [readHigh (storedLow.wf hm) x, State.afterWrite_congr storedLow.cfg_eq, funext (readLow hm)]

theorem State.write16_low_fault {s : State} {a : Nat} (w : Word) (low : ¬ s.Writable a) :
    s.write16 a w = .error (.memoryOutOfRange (s.remap a)) := by
  simp only [State.write16, State.write8_fault _ low]
  rfl

/-- The low byte has been written when the high byte faults, and that write moves no address (R204, R208). -/
theorem State.write16_high_fault {s : State} {a : Nat} (w : Word) (low : s.Writable a) (high : ¬ s.Writable (a + 1)) :
    s.write16 a w = .error (.memoryOutOfRange (s.remap (a + 1))) := by
  obtain ⟨u, hu, stored, -⟩ := State.write8_writable (lo8 w) low
  have faulted := State.write8_fault (hi8 w) (mt (State.writable_congr stored.cfg_eq (a + 1)).1 high)
  rw [State.remap_congr stored.cfg_eq] at faulted
  simp only [State.write16, hu]
  exact faulted

/-! ## The frames -/

/-- Writing a register changes that register only (R100). -/
theorem setReg_registersOnly (s : State) (r : Reg) (v : Byte) : RegistersOnly [r] s (s.setReg r v) where
  regs r' hr := by rw [State.reg_setReg, if_neg (mt List.mem_singleton.2 hr)]
  ie := s.setReg_ie r v
  ivec := s.setReg_ivec r v
  status := s.setReg_status r v
  cyc := s.setReg_cyc r v
  cfg := s.setReg_cfg r v
  portAnswers := s.setReg_portAnswers r v
  inCount := s.setReg_inCount r v
  outTrace := s.setReg_outTrace r v
  hostCalls := s.setReg_hostCalls r v
  flags := s.setReg_flags r v
  sp := s.setReg_sp r v
  pc := s.setReg_pc r v
  memory := s.setReg_readByte r v

/-- A change of memory and SP is outside every register and all of the control state. -/
theorem keeps_of_mem_sp (s : State) (m : Memory) (w : Word) : Keeps [] s { s with mem := m, sp := w } :=
  { regs := fun r _ => by cases r <;> rfl
    ie := rfl, ivec := rfl, status := rfl, cyc := rfl, cfg := rfl
    portAnswers := rfl, inCount := rfl, outTrace := rfl, hostCalls := rfl }

/-- A write to memory leaves every register and the control state alone (R202). -/
theorem MemStep.frame {s t : State} (h : MemStep s t) :
    Keeps [] s t ∧ t.flags = s.flags ∧ t.sp = s.sp ∧ t.pc = s.pc := by
  rw [h.eq]
  exact ⟨keeps_of_mem_sp s t.mem s.sp, rfl, rfl, rfl⟩

/-- A meaning that only writes memory answers a state with the memory written and the frame of a write. -/
theorem finish_of_memStep {s : State} {r : Except Fault State} {m : Nat → Byte} (hm : Memory.wf s.mem)
    (h : ∃ t, r = .ok t ∧ MemStep s t ∧ (Memory.wf s.mem → ∀ x, t.readByte x = m x)) :
    ∃ t, finish r = .next t ∧ Keeps [] s t ∧ t.flags = s.flags ∧ t.sp = s.sp ∧ t.pc = s.pc ∧
      ∀ x, t.readByte x = m x := by
  obtain ⟨t, ht, stored, hread⟩ := h
  obtain ⟨hkeeps, hflags, hsp, hpc⟩ := stored.frame
  exact ⟨t, finish_next.2 ht, hkeeps, hflags, hsp, hpc, hread hm⟩

/-- Writing a 16-bit operand changes its registers, or SP when it is SP, and nothing else (R304). -/
theorem setRp_frame (s : State) (p : Rp) (w : Word) :
    Keeps (rpRegs p) s (s.setRp p w) ∧ (p ≠ .sp → (s.setRp p w).sp = s.sp) ∧ (s.setRp p w).flags = s.flags ∧
      (s.setRp p w).pc = s.pc ∧ SameMemory s (s.setRp p w) := by
  refine ⟨?_, State.setRp_sp s p w, s.setRp_flags p w, s.setRp_pc p w, fun x => by simp [State.readByte]⟩
  cases p with
  | bc => exact (setPair_registersOnly s .bc w).toKeeps
  | de => exact (setPair_registersOnly s .de w).toKeeps
  | hl => exact (setPair_registersOnly s .hl w).toKeeps
  | sp => exact keeps_of_mem_sp s s.mem w

end Sys2Proof.Machine
end

section
/-! Data transfer (spec/41_data_transfer.md): each form's answer is written out once, and its frame is the frame of the
update that the answer makes. -/

namespace Sys2Proof.Machine

/-! ## Registers and immediates -/

/-- Settles O21: each form is one write of the destination register. -/
theorem registerMovesWriteTheDestinationOnly : Obligations.RegisterMovesWriteTheDestinationOnly := fun dst src v s =>
  ⟨⟨s.setReg dst (s.reg src), (Meaning.movRR dst src).exec_eq s, s.reg_setReg_self .., setReg_registersOnly ..⟩,
    ⟨s.setReg dst v, (Meaning.mviR dst v).exec_eq s, s.reg_setReg_self .., setReg_registersOnly ..⟩⟩

/-- Settles O22: each form is one write of the pair or SP; INX adds 1 and DCX adds 65535, mod 2^16. -/
theorem pairLoadIncrementAndDecrement : Obligations.PairLoadIncrementAndDecrement := by
  intro p w s
  refine ⟨⟨s.setRp p w, (Meaning.lxi p w).exec_eq s, s.rp_setRp p w, setRp_frame s p w⟩,
    ⟨s.setRp p (s.rp p + 1), (Meaning.inx p).exec_eq s, ?_, setRp_frame ..⟩,
    ⟨s.setRp p (s.rp p - 1), (Meaning.dcx p).exec_eq s, ?_, setRp_frame ..⟩⟩
  · rw [s.rp_setRp, BitVec.toNat_add]
    rfl
  · rw [s.rp_setRp, BitVec.toNat_sub, Nat.add_comm]
    rfl

/-- Exchanging DE and HL changes their four registers only (R512). -/
theorem exchange_registersOnly (s : State) :
    RegistersOnly [.d, .e, .h, .l] s { s with h := s.d, d := s.h, l := s.e, e := s.l } where
  regs r hr := by
    cases r with
    | d | e | h | l => exact absurd (by decide) hr
    | a | b | c => rfl
  ie := rfl
  ivec := rfl
  status := rfl
  cyc := rfl
  cfg := rfl
  portAnswers := rfl
  inCount := rfl
  outTrace := rfl
  hostCalls := rfl
  flags := rfl
  sp := rfl
  pc := rfl
  memory _ := rfl

/-- Settles O27: each form writes the fields its rule names; the complement of a byte is 255 less the byte. -/
theorem exchangeAndComplement : Obligations.ExchangeAndComplement := by
  intro s
  refine ⟨⟨_, Meaning.xchg.exec_eq s, rfl, rfl, rfl, rfl, exchange_registersOnly s⟩,
    ⟨_, Meaning.sphl.exec_eq s, cat_toNat s.h s.l, ?_⟩,
    ⟨s.setReg .a (~~~s.a), Meaning.cma.exec_eq s, BitVec.toNat_not, setReg_registersOnly ..⟩⟩
  exact ⟨keeps_of_mem_sp s s.mem (s.pair .hl), rfl, rfl, fun _ => rfl⟩

/-! ## Loads -/

/-- MOV r,M writes its register after the resolver (R501). -/
theorem exec_movRM (dst : Reg) {s : State} (h : 0 < s.cfg.memSize) :
    exec (.movRM dst) s = .next ((s.resolvePair .hl).2.setReg dst (s.readByte (s.resolvePair .hl).1)) := by
  rw [(Meaning.movRM dst).exec_eq, movRM, State.readThrough_ok .hl h]
  rfl

/-- LDAX writes A after the resolver (R510). -/
theorem exec_ldax (p : IdxPair) {s : State} (h : 0 < s.cfg.memSize) :
    exec (.ldax p) s =
      .next ((s.resolvePair (idxPair p)).2.setReg .a (s.readByte (s.resolvePair (idxPair p)).1)) := by
  rw [(Meaning.ldax p).exec_eq, loadIndirect, State.readThrough_ok (idxPair p) h]
  rfl

/-- Settles O23: each form is one write of a register in the state the resolver leaves. -/
theorem indirectLoadsReadAtTheResolvedAddress : Obligations.IndirectLoadsReadAtTheResolvedAddress := fun _ h =>
  ⟨fun dst => ⟨_, exec_movRM dst h, State.reg_setReg_self .., setReg_registersOnly ..⟩,
    ⟨_, exec_ldax .bc h, rfl, setReg_registersOnly ..⟩, ⟨_, exec_ldax .de h, rfl, setReg_registersOnly ..⟩⟩

/-- LDA reads one byte, at the address itself (R506). -/
theorem exec_lda_in {w : Word} {s : State} (h : w.toNat < s.cfg.memSize) :
    exec (.lda w) s = .next (s.setReg .a (s.readByte w.toNat)) := by
  rw [(Meaning.lda w).exec_eq, loadDirect, State.read8_in h]
  rfl

theorem exec_lda_out {w : Word} {s : State} (h : s.cfg.memSize ≤ w.toNat) :
    exec (.lda w) s = .fault (.memoryOutOfRange w.toNat) := by
  rw [(Meaning.lda w).exec_eq, loadDirect, State.read8_out h]
  rfl

/-- LHLD writes HL with the 16-bit value it reads (R508). -/
theorem exec_lhld_ok {w v : Word} {s : State} (h : s.read16 w.toNat = .ok v) :
    exec (.lhld w) s = .next (s.setPair .hl v) := by
  rw [(Meaning.lhld w).exec_eq, loadHLDirect, h]
  rfl

/-- LHLD writes nothing when its read faults (R508, R1202). -/
theorem exec_lhld_fault {w : Word} {r : Fault} {s : State} (h : s.read16 w.toNat = .error r) :
    exec (.lhld w) s = .fault r := by
  rw [(Meaning.lhld w).exec_eq, loadHLDirect, h]
  rfl

/-- Settles O25: the cases of the address are those of the 8-bit and the 16-bit read. -/
theorem directLoadsReadLittleEndian : Obligations.DirectLoadsReadLittleEndian := by
  intro w s
  exact ⟨fun h => ⟨_, exec_lda_in h, rfl, setReg_registersOnly ..⟩,
    fun h => ⟨_, exec_lhld_ok (State.read16_in h), lo8_cat .., hi8_cat .., setPair_registersOnly s .hl _⟩,
    fun h => ⟨exec_lda_out h, exec_lhld_fault (State.read16_low_out h)⟩,
    fun h => exec_lhld_fault (State.read16_high_out h)⟩

/-! ## Stores -/

/-- A form that stores through a pair raises no fault, and changes one byte of memory in the state the resolver leaves
(R206, R207). -/
theorem Meaning.storesThrough {i : Instr} {p : Pair} {val : State → Byte}
    (hm : Meaning i (State.writeThrough · p val)) {s : State} (hmem : Memory.wf s.mem) :
    ∃ t, exec i s = .next t ∧ Keeps [] (s.resolvePair p).2 t ∧ t.flags = s.flags ∧ t.sp = s.sp ∧ t.pc = s.pc ∧
      ∀ x, t.readByte x = s.afterWrite (s.resolvePair p).1 (val (s.resolvePair p).2) s.readByte x := by
  have hcfg := s.resolvePair_cfg p
  have writable := (State.writable_congr hcfg _).2 (s.resolvePair_writable p)
  have stored := finish_of_memStep (by rwa [s.resolvePair_mem p])
    (State.write8_writable (val (s.resolvePair p).2) writable)
  simp only [State.resolvePair_flags, State.resolvePair_sp, State.resolvePair_pc, State.afterWrite_congr hcfg,
    funext (s.resolvePair_readByte p)] at stored
  rw [hm.exec_eq]
  exact stored

/-- Settles O24: the four forms store through a pair; the resolver leaves A alone, so STAX stores the A of before. -/
theorem indirectStoresWriteAtTheResolvedAddress : Obligations.IndirectStoresWriteAtTheResolvedAddress := by
  intro s i p v hmem form
  have stax (q : IdxPair) := (Meaning.stax q).storesThrough hmem
  simp only [State.resolvePair_a] at stax
  obtain ⟨r, rfl, rfl, rfl⟩ | ⟨rfl, rfl⟩ | ⟨rfl, rfl, rfl⟩ | ⟨rfl, rfl, rfl⟩ := form
  · exact (Meaning.movMR r).storesThrough hmem
  · exact (Meaning.mviM v).storesThrough hmem
  · exact stax .bc
  · exact stax .de

/-- Settles O26: STA is one write, SHLD two, the low byte first; a write either may land or faults. -/
theorem directStoresWriteLittleEndian : Obligations.DirectStoresWriteLittleEndian := by
  intro w s hm
  have sta : exec (.sta w) s = finish (s.write8 w.toNat s.a) := (Meaning.sta w).exec_eq s
  have shld : exec (.shld w) s = finish (s.write16 w.toNat (cat s.h s.l)) := (Meaning.shld w).exec_eq s
  rw [sta, shld]
  refine ⟨fun low => ?_, fun low high => ?_, fun low => ?_, fun low high => ?_⟩
  · exact finish_of_memStep hm (State.write8_writable s.a low)
  · have stored := finish_of_memStep hm (State.write16_writable (cat s.h s.l) low high)
    rwa [hi8_cat, lo8_cat] at stored
  · rw [State.write8_fault s.a low, State.write16_low_fault _ low]
    exact ⟨rfl, rfl⟩
  · rw [State.write16_high_fault _ low high]
    rfl

end Sys2Proof.Machine
end

section
/-! Arithmetic (spec/42_arithmetic.md): the immediate ALU forms, INR, DCR and DAD, and the decimal adjust with the law
that makes an addition decimal (R621). -/

namespace Sys2Proof.Machine

/-! ## The adder and the subtractor -/

/-- Settles O31: the results are the first clauses of the rules that the two primitives meet. -/
theorem adderAndSubtractorAgreeOnResults : Obligations.AdderAndSubtractorAgreeOnResults := by
  intro a b c f
  obtain ⟨difference, -⟩ := sub8_diffRule a b c f
  obtain ⟨sum, -⟩ := add8_sumRule a b c f
  exact ⟨difference, sum⟩

/-- Settles O30: an immediate form applies the operation to its operand, and the operation meets its rule. -/
theorem aluImmediateFormsFollowTheirRules : Obligations.AluImmediateFormsFollowTheirRules := fun o v s =>
  ⟨applyAlu o v s, (Meaning.aluI o v).exec_eq s, aluValue_rule o s.a v s.flags, applyAlu_registersAndFlagsOnly o v s⟩

/-! ## Writing the flags -/

/-- Write the five flags (R107): the last update of INR, DCR, DAD and DAA. -/
def State.setFlags (s : State) (f : Flags) : State := { s with flags := f }

section SetFlags
variable (s : State) (f : Flags)
@[simp] theorem State.setFlags_flags : (s.setFlags f).flags = f := rfl
@[simp] theorem State.setFlags_mem : (s.setFlags f).mem = s.mem := rfl
@[simp] theorem State.reg_setFlags (r : Reg) : (s.setFlags f).reg r = s.reg r := by cases r <;> rfl
@[simp] theorem State.pair_setFlags (p : Pair) : (s.setFlags f).pair p = s.pair p := by cases p <;> rfl
end SetFlags

/-- Writing the flags leaves every register and the control state alone (R107). -/
theorem setFlags_keeps (s : State) (f : Flags) : Keeps [] s (s.setFlags f) :=
  { regs := fun r _ => s.reg_setFlags f r
    ie := rfl, ivec := rfl, status := rfl, cyc := rfl, cfg := rfl
    portAnswers := rfl, inCount := rfl, outTrace := rfl, hostCalls := rfl }

theorem Keeps.trans {rs rs' : List Reg} {s t u : State} (h : Keeps rs s t) (h' : Keeps rs' t u) :
    Keeps (rs ++ rs') s u where
  regs r hr := by
    obtain ⟨hrs, hrs'⟩ : r ∉ rs ∧ r ∉ rs' := by simpa using hr
    exact (h'.regs r hrs').trans (h.regs r hrs)
  ie := h'.ie.trans h.ie
  ivec := h'.ivec.trans h.ivec
  status := h'.status.trans h.status
  cyc := h'.cyc.trans h.cyc
  cfg := h'.cfg.trans h.cfg
  portAnswers := h'.portAnswers.trans h.portAnswers
  inCount := h'.inCount.trans h.inCount
  outTrace := h'.outTrace.trans h.outTrace
  hostCalls := h'.hostCalls.trans h.hostCalls

/-- A register update followed by a write of the flags has the update's frame, but for the flags. -/
theorem RegistersOnly.setFlags {rs : List Reg} {s t : State} (h : RegistersOnly rs s t) (f : Flags) :
    RegistersAndFlagsOnly rs s (t.setFlags f) where
  toKeeps := by simpa using h.toKeeps.trans (setFlags_keeps t f)
  sp := h.sp
  pc := h.pc
  memory := h.memory

/-! ## INR and DCR -/

/-- R612: adding 1 carries out of bit 3 exactly from a low nibble of 15, and CY is put back. -/
theorem inc8_incRule (v : Byte) (f : Flags) : IncRule v f (inc8 v f).1 (inc8 v f).2 := by
  obtain ⟨result, flags, -, carry⟩ := add8_sumRule v 1 false f
  exact ⟨result, flags, rfl, carry.trans (by simp; omega)⟩

/-- R614: subtracting 1 lends no borrow to bit 3 exactly from a low nibble other than 0, and CY is put back. -/
theorem dec8_decRule (v : Byte) (f : Flags) : DecRule v f (dec8 v f).1 (dec8 v f).2 := by
  obtain ⟨result, flags, -, borrow⟩ := sub8_diffRule v 1 false f
  exact ⟨result.trans (by simp), flags, rfl, borrow.trans (by simp; omega)⟩

/-- Settles O33: each form is one write of the register and one of the flags. -/
theorem registerIncrementAndDecrementKeepCarry : Obligations.RegisterIncrementAndDecrementKeepCarry := by
  intro r s
  refine ⟨⟨(s.setReg r (inc8 (s.reg r) s.flags).1).setFlags (inc8 (s.reg r) s.flags).2, (Meaning.inrR r).exec_eq s, ?_,
      (setReg_registersOnly ..).setFlags _⟩,
    ⟨(s.setReg r (dec8 (s.reg r) s.flags).1).setFlags (dec8 (s.reg r) s.flags).2, (Meaning.dcrR r).exec_eq s, ?_,
      (setReg_registersOnly ..).setFlags _⟩⟩
  · simpa using inc8_incRule (s.reg r) s.flags
  · simpa using dec8_decRule (s.reg r) s.flags

/-- INR M and DCR M raise no fault before their write, which follows the resolver and a write of the flags. -/
theorem modifyM_eq (op : Byte → Flags → Byte × Flags) {s : State} (h : 0 < s.cfg.memSize) :
    modifyM op s =
      ((s.resolvePair .hl).2.setFlags (op (s.readByte (s.resolvePair .hl).1) s.flags).2).write8
        (s.resolvePair .hl).1 (op (s.readByte (s.resolvePair .hl).1) s.flags).1 := by
  have read : (s.resolvePair .hl).2.read8 (s.resolvePair .hl).1 = .ok (s.readByte (s.resolvePair .hl).1) := by
    rw [State.read8_in (by simpa using s.resolvePair_lt .hl h), State.resolvePair_readByte]
  simp only [modifyM, read, bind, Except.bind, State.resolvePair_flags, State.setFlags]

/-- A form that modifies the memory operand raises no fault; it stores the operation's result and writes its flags in
the state the resolver leaves (R613, R615). -/
theorem Meaning.modifiesM {i : Instr} {op : Byte → Flags → Byte × Flags} (hm : Meaning i (modifyM op)) {s : State}
    (hmem : Memory.wf s.mem) (h : 0 < s.cfg.memSize) :
    ∃ t, exec i s = .next t ∧ t.flags = (op (s.readByte (s.resolvePair .hl).1) s.flags).2 ∧
      Keeps [] (s.resolvePair .hl).2 t ∧ t.sp = s.sp ∧ t.pc = s.pc ∧
      ∀ x, t.readByte x =
        s.afterWrite (s.resolvePair .hl).1 (op (s.readByte (s.resolvePair .hl).1) s.flags).1 s.readByte x := by
  rw [hm.exec_eq, modifyM_eq op h]
  generalize op (s.readByte (s.resolvePair .hl).1) s.flags = answer
  have hcfg : ((s.resolvePair .hl).2.setFlags answer.2).cfg = s.cfg := s.resolvePair_cfg .hl
  have hreads : ((s.resolvePair .hl).2.setFlags answer.2).readByte = s.readByte :=
    funext (s.resolvePair_readByte .hl)
  have writable := (State.writable_congr hcfg _).2 (s.resolvePair_writable .hl)
  obtain ⟨t, ht, hkeeps, hflags, hsp, hpc, hread⟩ :=
    finish_of_memStep (by simpa using hmem) (State.write8_writable answer.1 writable)
  rw [State.afterWrite_congr hcfg, hreads] at hread
  exact ⟨t, ht, hflags, (setFlags_keeps ..).trans hkeeps, hsp.trans (s.resolvePair_sp .hl),
    hpc.trans (s.resolvePair_pc .hl), hread⟩

/-- Settles O34: both forms modify the memory operand, by an operation that meets its rule. -/
theorem memoryIncrementAndDecrementStoreTheResult : Obligations.MemoryIncrementAndDecrementStoreTheResult := by
  intro s hmem h
  have inr : Meaning .inrM (modifyM inc8) := .inrM
  have dcr : Meaning .dcrM (modifyM dec8) := .dcrM
  constructor
  · obtain ⟨t, ht, hflags, frame⟩ := inr.modifiesM hmem h
    exact ⟨t, _, ht, hflags ▸ inc8_incRule _ _, frame⟩
  · obtain ⟨t, ht, hflags, frame⟩ := dcr.modifiesM hmem h
    exact ⟨t, _, ht, hflags ▸ dec8_decRule _ _, frame⟩

/-! ## DAD -/

/-- Settles O35: DAD is one write of HL and one of CY, and the value of HL is `256 * H + L`. -/
theorem doubleAddWritesHlAndCarryOnly : Obligations.DoubleAddWritesHlAndCarryOnly := by
  intro p s
  have hl (t : State) : t.h.toNat * 256 + t.l.toNat = (t.pair .hl).toNat := (cat_toNat t.h t.l).symm
  refine ⟨(s.setPair .hl (BitVec.ofNat 16 ((s.pair .hl).toNat + (s.rp p).toNat))).setFlags
      { s.flags with cy := decide ((s.pair .hl).toNat + (s.rp p).toNat > 0xFFFF) },
    (Meaning.dad p).exec_eq s, ?_, ?_, ⟨rfl, rfl, rfl, rfl⟩, (setPair_registersOnly s .hl _).setFlags _⟩
  · rw [hl, hl, State.pair_setFlags, State.pair_setPair, BitVec.toNat_ofNat]
  · rw [hl, State.setFlags_flags, decide_eq_true_eq]
    omega

/-! ## DAA -/

/-- R619: the correction is an addition of 0, 6, 0x60 or 0x66, which carries out of bit 3 as its low nibble does. -/
theorem daa8_daaRule (a : Byte) (f : Flags) : DaaRule a f (daa8 a f).1 (daa8 a f).2 := by
  simp only [DaaRule, daa8, Nat.shiftRight_eq_div_pow]
  generalize hlow : (if 9 < a.toNat % 16 ∨ f.ac = true then 6 else 0) = low
  have low_cases : low = 0 ∨ low = 6 := by split at hlow <;> omega
  by_cases high : 9 < (a.toNat + low) / 16 ∨ f.cy = true
  · have test : (decide (9 < (a.toNat + low) / 2 ^ 4) || f.cy) = true := by simpa using high
    have correction : (BitVec.ofNat 8 (low ||| 0x60)).toNat = low + 96 := by obtain rfl | rfl := low_cases <;> rfl
    obtain ⟨result, flags, -, carry⟩ := add8_sumRule a (BitVec.ofNat 8 (low ||| 0x60)) false f
    rw [correction] at result carry
    simp only [test, if_true]
    exact ⟨fun _ => result, fun h => absurd high h, flags, iff_of_true trivial high, carry.trans (by simp; omega)⟩
  · have test : (decide (9 < (a.toNat + low) / 2 ^ 4) || f.cy) = false := by simpa using high
    have correction : (BitVec.ofNat 8 low).toNat = low := by obtain rfl | rfl := low_cases <;> rfl
    obtain ⟨result, flags, -, carry⟩ := add8_sumRule a (BitVec.ofNat 8 low) false f
    rw [correction] at result carry
    simp only [test, Bool.false_eq_true, if_false]
    exact ⟨fun h => absurd h high, fun _ => result, flags, ⟨.inr, fun h => absurd h high⟩, carry.trans (by simp; omega)⟩

/-- Settles O36: DAA is one write of A and one of the flags. -/
theorem decimalAdjustCorrectsBothNibbles : Obligations.DecimalAdjustCorrectsBothNibbles := fun s =>
  ⟨(s.setReg .a (daa8 s.a s.flags).1).setFlags (daa8 s.a s.flags).2, Meaning.daa.exec_eq s, daa8_daaRule s.a s.flags,
    (setReg_registersOnly ..).setFlags _⟩

/-! ## Decimal addition -/

/-- R621: the high nibble of a packed-BCD byte is the tens digit, the low nibble the units digit. -/
theorem bcd_toNat {n : Nat} (h : n < 100) : (bcd n).toNat = n / 10 * 16 + n % 10 := by
  rw [bcd, BitVec.toNat_ofNat]
  omega

/-- R408, R619, R621: after a sum of two packed-BCD bytes, DAA corrects the low nibble exactly when the units digits
carry, and the sum with its carry is then the decimal sum, with its tens (19 at most) in the place of 16. -/
theorem SumRule.lowCorrected_of_bcd {x y : Nat} {c : Bool} {a : Byte} {f : Flags} (hx : x < 100) (hy : y < 100)
    (h : SumRule (bcd x) (bcd y) c a f) :
    a.toNat + (if 9 < a.toNat % 16 ∨ f.ac = true then 6 else 0) + f.cy.toNat * 256 =
      (x + y + c.toNat) / 10 * 16 + (x + y + c.toNat) % 10 := by
  obtain ⟨sum, -, carry, halfCarry⟩ := h
  rw [bcd_toNat hx, bcd_toNat hy] at sum carry halfCarry
  have hc := c.toNat_le
  have hcy := f.cy.toNat_le
  rw [← Bool.toNat_eq_one] at carry
  have digits : a.toNat + f.cy.toNat * 256 = (x / 10 + y / 10) * 16 + (x % 10 + y % 10 + c.toNat) := by omega
  have lowTest : 9 < a.toNat % 16 ∨ f.ac = true ↔ 10 ≤ x % 10 + y % 10 + c.toNat := by
    rw [halfCarry]
    omega
  rw [if_congr lowTest rfl rfl]
  split <;> omega

/-- R621, on the rules alone: after a sum of two packed-BCD bytes, DAA corrects the high nibble exactly when the whole
sum reaches 100. -/
theorem DaaRule.decimal_of_sumRule {x y : Nat} {c : Bool} {a r : Byte} {f f' : Flags} (hx : x < 100) (hy : y < 100)
    (hsum : SumRule (bcd x) (bcd y) c a f) (hdaa : DaaRule a f r f') :
    r = bcd ((x + y + c.toNat) % 100) ∧ (f'.cy = true ↔ 100 ≤ x + y + c.toNat) := by
  have lowCorrected := hsum.lowCorrected_of_bcd hx hy
  obtain ⟨corrected, uncorrected, -, decimalCarry, -⟩ := hdaa
  have hc := c.toNat_le
  have hcy := f.cy.toNat_le
  have bound : x + y + c.toNat < 200 := by omega
  generalize x + y + c.toNat = total at *
  generalize (if 9 < a.toNat % 16 ∨ f.ac = true then 6 else 0) = low at *
  have highTest : 9 < (a.toNat + low) / 16 ∨ f.cy = true ↔ 100 ≤ total := by
    rw [← Bool.toNat_eq_one]
    omega
  rw [highTest] at corrected uncorrected decimalCarry
  refine ⟨BitVec.eq_of_toNat_eq ?_, decimalCarry⟩
  rw [bcd_toNat (Nat.mod_lt _ (by decide))]
  by_cases hundred : 100 ≤ total
  · rw [corrected hundred]
    omega
  · rw [uncorrected hundred]
    omega

/-- ADC adds the carry, and so does ADD when the carry is 0 (R600, R603). -/
theorem AluRule.sumRule {o : AluOp} {a v a' : Byte} {f f' : Flags} (ho : o = .adc ∨ (o = .add ∧ f.cy = false))
    (h : AluRule o a v f a' f') : SumRule a v f.cy a' f' := by
  obtain rfl | ⟨rfl, hcy⟩ := ho
  · exact h
  · rw [hcy]
    exact h

/-- Settles O37: in each form of operand the addition meets the sum rule, and DAA turns that sum decimal. -/
theorem decimalAdditionLaw : Obligations.DecimalAdditionLaw := by
  intro s i x y o hx hy ha operand ho
  have added : ∃ t, exec i s = .next t ∧ AluRule o s.a (bcd y) s.flags t.a t.flags := by
    obtain ⟨r, rfl, hr⟩ | rfl | ⟨rfl, hmem, hbyte⟩ := operand
    · obtain ⟨t, ht, rule, -⟩ := aluRegisterFormsFollowTheirRules o r s
      exact ⟨t, ht, hr ▸ rule⟩
    · obtain ⟨t, ht, rule, -⟩ := aluImmediateFormsFollowTheirRules o (bcd y) s
      exact ⟨t, ht, rule⟩
    · obtain ⟨t, ht, rule, -⟩ := aluMemoryFormsFollowTheirRules o s hmem
      exact ⟨t, ht, hbyte ▸ rule⟩
  obtain ⟨t, ht, rule⟩ := added
  obtain ⟨u, hu, adjusted, -⟩ := decimalAdjustCorrectsBothNibbles t
  rw [ha] at rule
  exact ⟨t, u, ht, hu, adjusted.decimal_of_sumRule hx hy (rule.sumRule ho)⟩

end Sys2Proof.Machine
end

section
/-! The logical family (spec/43_logical.md): compare beside subtract (R720), the four rotates and their laws (R712 to
R715, R721), STC and CMC (R717, R718). -/

namespace Sys2Proof.Machine

/-! ## Compare -/

/-- The operand of a register or memory form, and the state it leaves, are the same for every operation; reading it
leaves A alone (R410). -/
theorem exec_alu_operand (x : Src) {s : State} (h : 0 < s.cfg.memSize) :
    ∃ v s', s'.a = s.a ∧ ∀ o, exec (.alu o x) s = .next (applyAlu o v s') := by
  cases x with
  | reg r => exact ⟨s.reg r, s, rfl, fun o => exec_alu_reg o r s⟩
  | m => exact ⟨_, _, s.resolvePair_a .hl, fun o => exec_alu_m o h⟩

/-- R709: CMP keeps A and takes the flags of the subtraction. -/
theorem applyAlu_cmp (v : Byte) (s : State) :
    (applyAlu .cmp v s).a = s.a ∧ (applyAlu .cmp v s).flags = (applyAlu .sub v s).flags := ⟨rfl, rfl⟩

/-- Settles O32: both operations take the same operand in the same state. -/
theorem compareSetsTheFlagsOfSubtract : Obligations.CompareSetsTheFlagsOfSubtract := by
  intro s i j form h
  obtain ⟨x, rfl, rfl⟩ | ⟨v, rfl, rfl⟩ := form
  · obtain ⟨v, s', ha, answer⟩ := exec_alu_operand x h
    exact ⟨_, _, answer .cmp, answer .sub, ha ▸ applyAlu_cmp v s'⟩
  · exact ⟨_, _, (Meaning.aluI .cmp v).exec_eq s, (Meaning.aluI .sub v).exec_eq s, applyAlu_cmp v s⟩

/-! ## STC and CMC -/

theorem setFlags_registersAndFlagsOnly (s : State) (f : Flags) : RegistersAndFlagsOnly [] s (s.setFlags f) :=
  { setFlags_keeps s f with sp := rfl, pc := rfl, memory := fun _ => rfl }

/-- Settles O40: each form is one write of the flags, with a new CY. -/
theorem carryInstructionsWriteCarryOnly : Obligations.CarryInstructionsWriteCarryOnly := fun s =>
  ⟨⟨_, Meaning.stc.exec_eq s, rfl, ⟨rfl, rfl, rfl, rfl⟩, setFlags_registersAndFlagsOnly s _⟩,
    ⟨_, Meaning.cmc.exec_eq s, rfl, ⟨rfl, rfl, rfl, rfl⟩, setFlags_registersAndFlagsOnly s _⟩⟩

/-! ## One rotate

RLC is RAL with bit 7 in place of the carry, and RRC is RAR with bit 0, so the facts about RAL and RAR serve all
four. -/

theorem rlc8_eq_ral8 (a : Byte) : rlc8 a = ral8 a (a.getLsbD 7) := rfl

theorem rrc8_eq_rar8 (a : Byte) : rrc8 a = rar8 a (a.getLsbD 0) := rfl

theorem bit7_toNat (a : Byte) : (a.getLsbD 7).toNat = a.toNat / 128 := by
  have ha := a.isLt
  rw [BitVec.getLsbD, Nat.toNat_testBit]
  omega

theorem bit0_toNat (a : Byte) : (a.getLsbD 0).toNat = a.toNat % 2 := by
  rw [BitVec.getLsbD, Nat.toNat_testBit, pow_zero, Nat.div_one]

/-- R714: the bit that enters at bit 0 is added to the double. -/
theorem ral8_toNat (a : Byte) (c : Bool) : (ral8 a c).1.toNat = a.toNat * 2 % 256 + c.toNat := by
  have hc := c.toNat_lt
  rw [ral8, BitVec.toNat_ofNat, ← Nat.shiftLeft_add_eq_or_of_lt hc, Nat.shiftLeft_eq]
  omega

/-- R715: the bit that enters at bit 7 is added, as 128, to the half. -/
theorem rar8_toNat (a : Byte) (c : Bool) : (rar8 a c).1.toNat = a.toNat / 2 + c.toNat * 128 := by
  have hc := c.toNat_lt
  have half : a.toNat >>> 1 < 2 ^ 7 := by rw [Nat.shiftRight_eq_div_pow]; omega
  rw [rar8, BitVec.toNat_ofNat, Nat.or_comm, ← Nat.shiftLeft_add_eq_or_of_lt half, Nat.shiftLeft_eq,
    Nat.shiftRight_eq_div_pow]
  omega

theorem rlc8_toNat (a : Byte) : (rlc8 a).1.toNat = a.toNat * 2 % 256 + a.toNat / 128 := by
  rw [rlc8_eq_ral8, ral8_toNat, bit7_toNat]

theorem rrc8_toNat (a : Byte) : (rrc8 a).1.toNat = a.toNat / 2 + a.toNat % 2 * 128 := by
  rw [rrc8_eq_rar8, rar8_toNat, bit0_toNat]

/-- R712, R714: the bit shifted out is bit 7. -/
theorem ral8_carry (a : Byte) (c : Bool) : (ral8 a c).2 = true ↔ 128 ≤ a.toNat := by
  rw [ral8, ← BitVec.msb_eq_getLsbD_last, BitVec.msb_eq_decide, decide_eq_true_eq]

/-- R713, R715: the bit shifted out is bit 0. -/
theorem rar8_carry (a : Byte) (c : Bool) : (rar8 a c).2 = true ↔ a.toNat % 2 = 1 := by
  rw [rar8, ← Bool.toNat_eq_one, bit0_toNat]

theorem setRotated_frame (s : State) (r : Byte × Bool) :
    OtherFlagsKept s.flags (setRotated s r).flags ∧ RegistersAndFlagsOnly [.a] s (setRotated s r) :=
  ⟨⟨rfl, rfl, rfl, rfl⟩, (setReg_registersOnly s .a r.1).setFlags { s.flags with cy := r.2 }⟩

/-- Settles O38: each form puts a rotated byte and the bit shifted out into A and CY. -/
theorem rotatesMoveOneBitAndWriteCarryOnly : Obligations.RotatesMoveOneBitAndWriteCarryOnly := fun s =>
  ⟨⟨_, Meaning.rlc.exec_eq s, rlc8_toNat s.a, ral8_carry s.a (s.a.getLsbD 7), setRotated_frame s (rlc8 s.a)⟩,
    ⟨_, Meaning.rrc.exec_eq s, rrc8_toNat s.a, rar8_carry s.a (s.a.getLsbD 0), setRotated_frame s (rrc8 s.a)⟩,
    ⟨_, Meaning.ral.exec_eq s, ral8_toNat s.a s.flags.cy, ral8_carry s.a s.flags.cy,
      setRotated_frame s (ral8 s.a s.flags.cy)⟩,
    ⟨_, Meaning.rar.exec_eq s, rar8_toNat s.a s.flags.cy, rar8_carry s.a s.flags.cy,
      setRotated_frame s (rar8 s.a s.flags.cy)⟩⟩

/-! ## Repeated rotates

A rotate turns the bits of a ring by one place: the eight bits of A, or the nine of `cat(CY, A)`. As many turns as the
ring has bits bring every bit back. -/

/-- The 9-bit value `cat(CY, A)` of R721. -/
def catCarry (r : Byte × Bool) : BitVec 9 := .cons r.2 r.1

theorem catCarry_injective : Function.Injective catCarry := by
  intro r r' h
  have hcarry := congrArg BitVec.msb h
  have ha := congrArg (BitVec.setWidth 8) h
  simp only [catCarry, BitVec.msb_cons, BitVec.setWidth_cons] at hcarry ha
  exact Prod.ext ha hcarry

/-- Bit `i` of the ring after the rotate is bit `i + k` of the ring before it, counted around the ring. -/
def TurnsRing {w : Nat} (ring : Byte × Bool → BitVec w) (k : Nat) (turn : Byte × Bool → Byte × Bool) : Prop :=
  ∀ r, ∀ i < w, (ring (turn r)).getLsbD i = (ring r).getLsbD ((i + k) % w)

section Turns
variable {w k : Nat} {ring : Byte × Bool → BitVec w} {turn : Byte × Bool → Byte × Bool}

/-- Each turn adds `k` places. -/
theorem TurnsRing.iterate (h : TurnsRing ring k turn) (m : Nat) : TurnsRing ring (m * k) turn^[m] := by
  induction m with
  | zero =>
    intro r i hi
    rw [Nat.zero_mul, Nat.add_zero, Nat.mod_eq_of_lt hi, Function.iterate_zero_apply]
  | succ m ih =>
    intro r i hi
    rw [Function.iterate_succ_apply, ih _ i hi, h r _ (Nat.mod_lt _ (by omega)), Nat.mod_add_mod, Nat.add_assoc,
      Nat.succ_mul]

/-- One turn for each bit of the ring restores the ring. -/
theorem TurnsRing.restores (h : TurnsRing ring k turn) (r : Byte × Bool) : ring (turn^[w] r) = ring r := by
  refine BitVec.eq_of_getLsbD_eq fun i hi => ?_
  rw [h.iterate w r i hi, Nat.add_mul_mod_self_left, Nat.mod_eq_of_lt hi]

/-- Repeating an instruction that rotates repeats its turn of A and CY. -/
theorem execTimes_rotate {i : Instr} (h : ∀ s, exec i s = .next (setRotated s (turn (s.a, s.flags.cy)))) (n : Nat)
    (s : State) : execTimes i n s = .next (setRotated s (turn^[n] (s.a, s.flags.cy))) := by
  induction n generalizing s with
  | zero => rfl
  | succ n ih =>
    rw [execTimes, h]
    exact ih _

end Turns

/-- R714: after RAL, the nine bits are those of A with the old carry below them. -/
theorem catCarry_ral8 (a : Byte) (c : Bool) : catCarry (ral8 a c) = a.concat c := by
  have carry : (ral8 a c).2.toNat = a.toNat / 128 := bit7_toNat a
  refine BitVec.eq_of_toNat_eq ?_
  rw [catCarry, BitVec.toNat_cons', ral8_toNat, carry, BitVec.toNat_concat, Nat.shiftLeft_eq]
  omega

/-- R715: A after RAR, with the new carry below it, is the nine bits of before. -/
theorem concat_rar8 (a : Byte) (c : Bool) : (rar8 a c).1.concat (rar8 a c).2 = .cons c a := by
  have carry : (rar8 a c).2.toNat = a.toNat % 2 := bit0_toNat a
  refine BitVec.eq_of_toNat_eq ?_
  rw [BitVec.toNat_concat, rar8_toNat, carry, BitVec.toNat_cons', Nat.shiftLeft_eq]
  omega

theorem ral8_getLsbD (a : Byte) (c : Bool) {i : Nat} (hi : i < 8) :
    (ral8 a c).1.getLsbD i = if i = 0 then c else a.getLsbD (i - 1) := by
  have bit := congrArg (BitVec.getLsbD · i) (catCarry_ral8 a c)
  simpa only [catCarry, BitVec.getLsbD_cons, hi.ne, if_false, BitVec.getLsbD_concat] using bit

theorem rar8_getLsbD (a : Byte) (c : Bool) (i : Nat) :
    (rar8 a c).1.getLsbD i = if i + 1 = 8 then c else a.getLsbD (i + 1) := by
  rw [← BitVec.getLsbD_cons, ← concat_rar8, BitVec.getLsbD_concat]
  rfl

theorem rlc8_turnsRing : TurnsRing Prod.fst 7 (fun r => rlc8 r.1) := by
  intro r i hi
  refine (ral8_getLsbD r.1 (r.1.getLsbD 7) hi).trans ?_
  split <;> exact congrArg _ (by omega)

theorem rrc8_turnsRing : TurnsRing Prod.fst 1 (fun r => rrc8 r.1) := by
  intro r i hi
  refine (rar8_getLsbD r.1 (r.1.getLsbD 0) i).trans ?_
  split <;> exact congrArg _ (by omega)

/-- Moving the carry from above A to below it turns the nine bits by one place. -/
theorem getLsbD_concat_eq_catCarry (r : Byte × Bool) {i : Nat} (hi : i < 9) :
    (r.1.concat r.2).getLsbD i = (catCarry r).getLsbD ((i + 8) % 9) := by
  rw [catCarry, BitVec.getLsbD_cons, BitVec.getLsbD_concat]
  obtain rfl | hpos := i.eq_zero_or_pos
  · rfl
  · rw [if_neg hpos.ne', if_neg (by omega), (by omega : (i + 8) % 9 = i - 1)]

theorem ral8_turnsRing : TurnsRing catCarry 8 (fun r => ral8 r.1 r.2) := by
  intro r i hi
  rw [catCarry_ral8, getLsbD_concat_eq_catCarry r hi]

theorem rar8_turnsRing : TurnsRing catCarry 1 (fun r => rar8 r.1 r.2) := by
  intro r i hi
  have before := getLsbD_concat_eq_catCarry (rar8 r.1 r.2) (Nat.mod_lt (i + 1) (by decide : 9 > 0))
  rw [concat_rar8] at before
  exact (congrArg _ (by omega)).trans before.symm

/-- A turn of the nine bits, taken nine times, restores A and CY, and with them the whole state. -/
theorem execTimes_nine {i : Instr} {k : Nat} {turn : Byte × Bool → Byte × Bool}
    (h : ∀ s, exec i s = .next (setRotated s (turn (s.a, s.flags.cy)))) (hturn : TurnsRing catCarry k turn)
    (s : State) : execTimes i 9 s = .next s := by
  rw [execTimes_rotate h, catCarry_injective (hturn.restores (s.a, s.flags.cy))]
  rfl

/-- Settles O39: RLC and RRC turn the ring of A, RAL and RAR the ring of `cat(CY, A)`. -/
theorem repeatedRotatesRestoreTheValue : Obligations.RepeatedRotatesRestoreTheValue := fun s =>
  ⟨⟨_, execTimes_rotate (turn := fun r => rlc8 r.1) Meaning.rlc.exec_eq 8 s,
      rlc8_turnsRing.restores (s.a, s.flags.cy)⟩,
    ⟨_, execTimes_rotate (turn := fun r => rrc8 r.1) Meaning.rrc.exec_eq 8 s,
      rrc8_turnsRing.restores (s.a, s.flags.cy)⟩,
    ⟨s, execTimes_nine Meaning.ral.exec_eq ral8_turnsRing s, rfl, rfl⟩,
    ⟨s, execTimes_nine Meaning.rar.exec_eq rar8_turnsRing s, rfl, rfl⟩⟩

end Sys2Proof.Machine
end

section
/-! The stack (spec/44_stack.md): what a push and a pop answer, the flags byte (R802, R803), the exchange with the top
of the stack (R808), and the round trip over whole steps (R810). -/

namespace Sys2Proof.Machine

/-! ## Where the bytes of a write land -/

section AfterWrite
variable {s : State} {a x : Nat} (v : Byte) (m : Nat → Byte)

theorem State.afterWrite_guarded (h : s.remap a ≤ s.cfg.romBoundary) : s.afterWrite a v m = m :=
  funext fun _ => if_neg fun landed => Nat.not_lt.2 h landed.1

theorem State.afterWrite_self (unguarded : s.cfg.romBoundary < a) (plain : ¬ s.Mirrored a) :
    s.afterWrite a v m a = v := by
  simp [State.afterWrite, State.remap_of_not_mirrored plain, unguarded]

theorem State.afterWrite_ne (plain : ¬ s.Mirrored a) (h : x ≠ a) : s.afterWrite a v m x = m x := by
  simp [State.afterWrite, State.remap_of_not_mirrored plain, h]

end AfterWrite

/-- The remap only lowers an address, so what can be read can be written (R204). -/
theorem State.writable_of_lt {s : State} {a : Nat} (h : a < s.cfg.memSize) : s.Writable a :=
  .inr (lt_of_le_of_lt (s.remap_le a) h)

/-! ## PUSH -/

/-- A push that raises no fault lowers SP by 2, stores its two bytes, and changes nothing else (R800). -/
theorem finish_push16 {s : State} (w : Word) (hm : Memory.wf s.mem) (h : s.Pushable) :
    ∃ t, finish (s.push16 w) = .next t ∧ t.sp = s.sp - 2 ∧ Keeps [] s t ∧ t.flags = s.flags ∧ t.pc = s.pc ∧
      ∀ x, t.readByte x = s.afterPush w x := by
  obtain ⟨t, ht, stored, hread⟩ := State.push16_pushable w h
  obtain ⟨hkeeps, hflags, hsp, hpc⟩ := stored.frame
  exact ⟨t, finish_next.2 ht, hsp, (keeps_of_mem_sp s s.mem (s.sp - 2)).trans hkeeps, hflags, hpc, hread hm⟩

/-! ## The flags byte -/

theorem getLsb_or (x y : Byte) (k : Fin 8) : (x ||| y).getLsb k = (x.getLsb k || y.getLsb k) := BitVec.getLsbD_or

theorem getLsb_ofNat_shiftLeft (b : Bool) (p k : Fin 8) :
    (BitVec.ofNat 8 (b.toNat <<< p.val)).getLsb k = (b && decide (k = p)) := by
  cases b with
  | false => simp
  | true => revert p k; decide

/-- A bit of the flags byte is set by the pad or by the flag that has its position (R802). -/
theorem packFlags_getLsb (lay : PswLayout) (f : Flags) (k : Fin 8) :
    (packFlags lay f).getLsb k =
      (lay.pad.getLsb k || (f.s && decide (k = lay.posS)) || (f.z && decide (k = lay.posZ)) ||
        (f.p && decide (k = lay.posP)) || (f.cy && decide (k = lay.posCY))) := by
  simp only [packFlags, getLsb_or, getLsb_ofNat_shiftLeft]

/-- The four positions are distinct and the pad is 0 there, so each holds its flag; the others hold the pad (R802). -/
theorem packFlags_bits {lay : PswLayout} (h : lay.wf) (f : Flags) :
    ((packFlags lay f).getLsb lay.posS = f.s ∧ (packFlags lay f).getLsb lay.posZ = f.z ∧
      (packFlags lay f).getLsb lay.posP = f.p ∧ (packFlags lay f).getLsb lay.posCY = f.cy) ∧
    ∀ k, k ≠ lay.posS → k ≠ lay.posZ → k ≠ lay.posP → k ≠ lay.posCY →
      (packFlags lay f).getLsb k = lay.pad.getLsb k := by
  obtain ⟨⟨sz, sp, sc, zp, zc, pc⟩, padS, padZ, padP, padCY⟩ := h
  simp only [packFlags_getLsb, padS, padZ, padP, padCY]
  refine ⟨⟨?_, ?_, ?_, ?_⟩, fun k hs hz hp hc => by simp [hs, hz, hp, hc]⟩
  · simp [sz, sp, sc]
  · simp [sz.symm, zp, zc]
  · simp [sp.symm, zp.symm, pc]
  · simp [sc.symm, zc.symm, pc.symm]

/-- Unpacking what was packed gives the four flags back, and leaves AC alone (R802, R803). -/
theorem unpackFlags_packFlags {lay : PswLayout} (h : lay.wf) (f : Flags) :
    unpackFlags lay (packFlags lay f) f = f := by
  obtain ⟨⟨hs, hz, hp, hcy⟩, -⟩ := packFlags_bits h f
  simp only [unpackFlags, hs, hz, hp, hcy]

/-- Settles O41: both forms are one push, of the pair or of A and the packed flags. -/
theorem pushStoresThePairBelowSp : Obligations.PushStoresThePairBelowSp := by
  intro s hm pushable
  refine ⟨fun p => ?_, fun layout => ?_⟩
  · rw [(Meaning.push p).exec_eq]
    exact finish_push16 (s.pair p) hm pushable
  · obtain ⟨t, ht, hsp, hkeeps, hflags, hpc, hread⟩ :=
      finish_push16 (cat s.a (packFlags s.cfg.psw s.flags)) hm pushable
    exact ⟨t, packFlags s.cfg.psw s.flags, (Meaning.pushPSW.exec_eq s).trans ht, hsp, hkeeps, hflags, hpc, hread,
      packFlags_bits layout s.flags⟩

/-! ## POP -/

/-- POP rp moves SP and writes its pair with the top of the stack (R806). -/
theorem exec_pop (p : Pair) {s : State} (h : s.Poppable) :
    exec (.pop p) s = .next (State.setPair { s with sp := s.sp + 2 } p s.top) := by
  rw [(Meaning.pop p).exec_eq, popPair, State.pop16_poppable h]
  rfl

/-- POP PSW moves SP and writes A and the flags with the two bytes at the top of the stack (R807). -/
theorem exec_popPSW {s : State} (h : s.Poppable) :
    exec .popPSW s = .next ((State.setReg { s with sp := s.sp + 2 } .a (hi8 s.top)).setFlags
      (unpackFlags s.cfg.psw (lo8 s.top) s.flags)) := by
  rw [Meaning.popPSW.exec_eq, popPsw, State.pop16_poppable h]
  rfl

/-- Settles O42: each form moves SP and then makes one write of its registers. -/
theorem popLoadsThePairAtSp : Obligations.PopLoadsThePairAtSp := by
  intro s poppable
  have moved := keeps_of_mem_sp s s.mem (s.sp + 2)
  refine ⟨fun p => ⟨_, exec_pop p poppable, ?_⟩, ⟨_, exec_popPSW poppable, ?_⟩⟩
  · have written := setPair_registersOnly { s with sp := s.sp + 2 } p s.top
    exact ⟨written.sp, State.pair_setPair .., moved.trans written.toKeeps, written.flags, written.pc, written.memory⟩
  · have written := (setReg_registersOnly { s with sp := s.sp + 2 } .a (hi8 s.top)).setFlags
      (unpackFlags s.cfg.psw (lo8 s.top) s.flags)
    refine ⟨written.sp, hi8_cat .., ?_, moved.trans written.toKeeps, written.pc, written.memory⟩
    simp [unpackFlags, State.top]

/-! ## XTHL -/

/-- XTHL reads the top of the stack, makes a 16-bit write of HL there, and then writes HL (R808). -/
theorem exec_xthl {s t : State} (h : s.Poppable) (ht : s.write16 s.sp.toNat (s.pair .hl) = .ok t) :
    exec .xthl s = .next (t.setPair .hl s.top) := by
  obtain ⟨u, lowStored, highStored⟩ := bind_eq_ok.1 ht
  rw [State.pair, lo8_cat] at lowStored
  rw [State.pair, hi8_cat] at highStored
  have completed : exchangeTop s = .ok _ :=
    bind_eq_ok.2 ⟨_, State.read8_in (Nat.lt_of_succ_lt h), bind_eq_ok.2 ⟨_, State.read8_in h,
      bind_eq_ok.2 ⟨u, lowStored, bind_eq_ok.2 ⟨t, highStored, rfl⟩⟩⟩⟩
  rw [Meaning.xthl.exec_eq, completed, State.setPair, State.top, hi8_cat, lo8_cat]
  rfl

/-- Settles O44: both bytes can be read, so both can be written. -/
theorem exchangeTopOfStackWithHl : Obligations.ExchangeTopOfStackWithHl := by
  intro s hm poppable
  obtain ⟨t, ht, stored, hread⟩ := State.write16_writable (s.pair .hl)
    (State.writable_of_lt (Nat.lt_of_succ_lt poppable)) (State.writable_of_lt poppable)
  have written := setPair_registersOnly t .hl s.top
  obtain ⟨hkeeps, hflags, hsp, hpc⟩ := stored.frame
  refine ⟨_, exec_xthl poppable ht, lo8_cat .., hi8_cat .., hkeeps.trans written.toKeeps, written.flags.trans hflags,
    written.sp.trans hsp, written.pc.trans hpc, fun x => (written.memory x).trans ?_⟩
  simpa [State.pair] using hread hm x

/-! ## A whole step of a push or a pop -/

/-- SP after the stack guard (R403). -/
def guardSp (c : Config) (sp : Word) : Word :=
  if sp.toNat < c.romBoundary ∨ c.memSize < sp.toNat then 0 else sp

theorem guardSp_inside {c : Config} {sp : Word} (low : c.romBoundary ≤ sp.toNat) (high : sp.toNat ≤ c.memSize) :
    guardSp c sp = sp := if_neg (by omega)

theorem guardSp_below {c : Config} {sp : Word} (h : sp.toNat < c.romBoundary) : guardSp c sp = 0 := if_pos (.inl h)

/-- The step on an instruction's bytes, when its meaning past them completes: the guards move SP and PC, the cost moves
CYC, and the rest is as the meaning leaves it (R401, R405). -/
theorem stepInstr_of_encode {s t : State} {i : Instr} (running : s.status = .running)
    (bytes : s.BytesAtPc (encode i) s.pc)
    (executed : exec i { s with pc := s.pc + BitVec.ofNat 16 (encode i).length } = .next t) :
    ∃ n pc, stepInstr s = .next { t with cyc := n, sp := guardSp t.cfg t.sp, pc := pc } := by
  have fetched := fetchInstr_of_announces (announces_encoding i) bytes
  rw [stepInstr_of_fetch running fetched]
  exact ⟨_, _, (congrArg (mapNext _) executed).trans (congrArg Host.Outcome.next (completeStep_eq _ t))⟩

/-- What a whole step that pushes `w` from `s` leaves, but for PC and CYC. -/
structure PushedStep (w : Word) (s t : State) : Prop where
  sp : t.sp = guardSp s.cfg (s.sp - 2)
  status : t.status = s.status
  cfg : t.cfg = s.cfg
  flags : t.flags = s.flags
  memory : ∀ x, t.readByte x = s.afterPush w x

/-- A whole step of an instruction that pushes a word which does not depend on PC. -/
theorem Meaning.pushedStep {i : Instr} {val : State → Word} (hm : Meaning i fun u => u.push16 (val u)) {s : State}
    (hval : ∀ pc : Word, val { s with pc := pc } = val s) (running : s.status = .running) (wf : Memory.wf s.mem)
    (pushable : s.Pushable) (bytes : s.BytesAtPc (encode i) s.pc) :
    ∃ t, stepInstr s = .next t ∧ PushedStep (val s) s t := by
  obtain ⟨t, ht, hsp, hkeeps, hflags, -, hread⟩ :=
    finish_push16 (s := { s with pc := s.pc + BitVec.ofNat 16 (encode i).length }) (val s) wf pushable
  obtain ⟨n, pc, stepped⟩ := stepInstr_of_encode running bytes (by rw [hm.exec_eq, hval, ht])
  exact ⟨_, stepped, by rw [hkeeps.cfg, hsp], hkeeps.status, hkeeps.cfg, hflags, hread⟩

/-- A whole step of POP rp. -/
theorem stepInstr_pop {s : State} {p : Pair} (running : s.status = .running) (poppable : s.Poppable)
    (bytes : s.BytesAtPc (encode (.pop p)) s.pc) :
    ∃ u, stepInstr s = .next u ∧ u.pair p = s.top ∧ u.sp = guardSp s.cfg (s.sp + 2) ∧ SameMemory s u := by
  obtain ⟨n, pc, stepped⟩ := stepInstr_of_encode running bytes (exec_pop p poppable)
  rw [State.setPair_cfg, State.setPair_sp] at stepped
  exact ⟨_, stepped, State.pair_setPair _ p s.top, rfl, State.setPair_readByte _ p s.top⟩

/-- A whole step of POP PSW. -/
theorem stepInstr_popPSW {s : State} (running : s.status = .running) (poppable : s.Poppable)
    (bytes : s.BytesAtPc (encode .popPSW) s.pc) :
    ∃ u, stepInstr s = .next u ∧ u.a = hi8 s.top ∧ u.flags = unpackFlags s.cfg.psw (lo8 s.top) s.flags ∧
      u.sp = guardSp s.cfg (s.sp + 2) := by
  obtain ⟨n, pc, stepped⟩ := stepInstr_of_encode running bytes (exec_popPSW poppable)
  exact ⟨_, stepped, rfl, rfl, rfl⟩

/-! ## PUSH and then the matching POP (R810) -/

/-- A push of `w` from `s` leaves SP at `sp₁`, and a pop from there answers `top` and leaves SP at `sp₂`. -/
structure PushPop (s : State) (w sp₁ top sp₂ : Word) : Prop where
  pushable : s.Pushable
  lowered : guardSp s.cfg (s.sp - 2) = sp₁
  poppable : sp₁.toNat + 1 < s.cfg.memSize
  popped : cat (s.afterPush w (sp₁.toNat + 1)) (s.afterPush w sp₁.toNat) = top
  raised : guardSp s.cfg (sp₁ + 2) = sp₂

section WholeSteps
variable {s t : State} {w sp₁ top sp₂ : Word}

/-- After the push's step, the pop's premise and its answers are those of the round trip. -/
theorem PushPop.of_pushedStep (h : PushPop s w sp₁ top sp₂) (pushed : PushedStep w s t) :
    t.sp = sp₁ ∧ t.Poppable ∧ t.top = top ∧ guardSp t.cfg (t.sp + 2) = sp₂ := by
  have hsp : t.sp = sp₁ := pushed.sp.trans h.lowered
  refine ⟨hsp, ?_, ?_, ?_⟩
  · rw [State.Poppable, hsp, pushed.cfg]
    exact h.poppable
  · rw [State.top, pushed.memory, pushed.memory, hsp]
    exact h.popped
  · rw [hsp, pushed.cfg]
    exact h.raised

/-- R810 for PUSH rp and POP rp over whole steps: the pop writes the pair with what the round trip answers. -/
theorem PushPop.pair_steps {p : Pair} (h : PushPop s (s.pair p) sp₁ top sp₂) (running : s.status = .running)
    (wf : Memory.wf s.mem) (bytes : s.BytesAtPc (encode (.push p)) s.pc) :
    ∃ t, stepInstr s = .next t ∧ t.sp = sp₁ ∧ (∀ x, t.readByte x = s.afterPush (s.pair p) x) ∧
      (t.BytesAtPc (encode (.pop p)) t.pc → ∃ u, stepInstr t = .next u ∧ u.pair p = top ∧ u.sp = sp₂ ∧
        ∀ x, u.readByte x = s.afterPush (s.pair p) x) := by
  obtain ⟨t, ht, pushed⟩ := (Meaning.push p).pushedStep (fun _ => rfl) running wf h.pushable bytes
  obtain ⟨hsp, poppable, htop, hraised⟩ := h.of_pushedStep pushed
  refine ⟨t, ht, hsp, pushed.memory, fun popBytes => ?_⟩
  obtain ⟨u, hu, hpair, husp, hmem⟩ := stepInstr_pop (pushed.status.trans running) poppable popBytes
  exact ⟨u, hu, hpair.trans htop, husp.trans hraised, fun x => (hmem x).trans (pushed.memory x)⟩

/-- R810 for PUSH PSW and POP PSW over whole steps: the pop never writes AC, and the push leaves it alone. -/
theorem PushPop.psw_steps {hi lo : Byte}
    (h : PushPop s (cat s.a (packFlags s.cfg.psw s.flags)) sp₁ (cat hi lo) sp₂) (running : s.status = .running)
    (wf : Memory.wf s.mem) (bytes : s.BytesAtPc (encode .pushPSW) s.pc) :
    ∃ t, stepInstr s = .next t ∧ t.sp = sp₁ ∧
      (∀ x, t.readByte x = s.afterPush (cat s.a (packFlags s.cfg.psw s.flags)) x) ∧
      (t.BytesAtPc (encode .popPSW) t.pc → ∃ u, stepInstr t = .next u ∧ u.a = hi ∧
        u.flags = unpackFlags s.cfg.psw lo s.flags ∧ u.sp = sp₂) := by
  obtain ⟨t, ht, pushed⟩ := Meaning.pushPSW.pushedStep
    (val := fun u => cat u.a (packFlags u.cfg.psw u.flags)) (fun _ => rfl) running wf h.pushable bytes
  obtain ⟨hsp, poppable, htop, hraised⟩ := h.of_pushedStep pushed
  refine ⟨t, ht, hsp, pushed.memory, fun popBytes => ?_⟩
  obtain ⟨u, hu, ha, hflags, husp⟩ := stepInstr_popPSW (pushed.status.trans running) poppable popBytes
  rw [htop, hi8_cat] at ha
  rw [htop, lo8_cat, pushed.cfg, pushed.flags] at hflags
  exact ⟨u, hu, ha, hflags, husp.trans hraised⟩

end WholeSteps

/-! ### The three ranges of SP -/

section Ranges
variable {s : State} (w : Word)

theorem State.sp_sub_two_toNat (h : 2 ≤ s.sp.toNat) : (s.sp - 2).toNat = s.sp.toNat - 2 :=
  BitVec.toNat_sub_of_le h

theorem State.sp_sub_two_toNat_succ (h : 2 ≤ s.sp.toNat) : (s.sp - 2).toNat + 1 = s.sp.toNat - 1 := by
  rw [State.sp_sub_two_toNat h]
  omega

theorem State.afterPush_eq (h : 2 ≤ s.sp.toNat) :
    s.afterPush w =
      s.afterWrite (s.sp.toNat - 2) (lo8 w) (s.afterWrite (s.sp.toNat - 1) (hi8 w) s.readByte) := by
  rw [State.afterPush, State.sp_sub_two_toNat_succ h, State.sp_sub_two_toNat h]

theorem State.pushable_of_writable (h : 2 ≤ s.sp.toNat) (high : s.Writable (s.sp.toNat - 1))
    (low : s.Writable (s.sp.toNat - 2)) : s.Pushable := by
  rw [State.Pushable, State.sp_sub_two_toNat_succ h, State.sp_sub_two_toNat h]
  exact ⟨high, low⟩

/-- From two above ROM_BOUNDARY on, the stack guard moves SP after neither step, so SP comes back (R403). -/
theorem PushPop.of_unguarded {top : Word} (low : s.cfg.romBoundary + 2 ≤ s.sp.toNat)
    (high : s.sp.toNat ≤ s.cfg.memSize)
    (popped : cat (s.afterPush w (s.sp.toNat - 1)) (s.afterPush w (s.sp.toNat - 2)) = top) :
    PushPop s w (s.sp - 2) top s.sp := by
  have two_le : 2 ≤ s.sp.toNat := by omega
  have hsp := State.sp_sub_two_toNat two_le
  exact {
    pushable := State.pushable_of_writable two_le (State.writable_of_lt (by omega)) (State.writable_of_lt (by omega))
    lowered := guardSp_inside (by omega) (by omega)
    poppable := by omega
    popped := by rw [State.sp_sub_two_toNat_succ two_le, hsp]; exact popped
    raised := by rw [BitVec.sub_add_cancel]; exact guardSp_inside (by omega) high }

/-- Both bytes in RAM, outside the mirror range, hold the word pushed. -/
theorem State.afterPush_ram (above : s.cfg.romBoundary + 2 < s.sp.toNat) (plainLow : ¬ s.Mirrored (s.sp.toNat - 2))
    (plainHigh : ¬ s.Mirrored (s.sp.toNat - 1)) :
    s.afterPush w (s.sp.toNat - 1) = hi8 w ∧ s.afterPush w (s.sp.toNat - 2) = lo8 w := by
  rw [State.afterPush_eq w (by omega), State.afterWrite_ne _ _ plainLow (by omega)]
  exact ⟨State.afterWrite_self _ _ (by omega) plainHigh, State.afterWrite_self _ _ (by omega) plainLow⟩

/-- At the boundary the high byte is stored and the low byte is as before (R203). -/
theorem State.afterPush_boundary (boundary : s.sp.toNat = s.cfg.romBoundary + 2)
    (plainHigh : ¬ s.Mirrored (s.sp.toNat - 1)) :
    s.afterPush w (s.sp.toNat - 1) = hi8 w ∧ s.afterPush w (s.sp.toNat - 2) = s.readByte s.cfg.romBoundary := by
  have guarded : s.remap (s.sp.toNat - 2) ≤ s.cfg.romBoundary := (s.remap_le _).trans (by omega)
  rw [State.afterPush_eq w (by omega), State.afterWrite_guarded _ _ guarded,
    State.afterWrite_ne _ _ plainHigh (by omega : s.sp.toNat - 2 ≠ s.sp.toNat - 1)]
  exact ⟨State.afterWrite_self _ _ (by omega) plainHigh, congrArg s.readByte (by omega)⟩

/-- Both bytes at or below ROM_BOUNDARY are discarded (R203). -/
theorem State.afterPush_rom (two_le : 2 ≤ s.sp.toNat) (below : s.sp.toNat ≤ s.cfg.romBoundary + 1) :
    s.afterPush w = s.readByte := by
  have guarded (a : Nat) (h : a < s.sp.toNat) : s.remap a ≤ s.cfg.romBoundary := (s.remap_le a).trans (by omega)
  rw [State.afterPush_eq w two_le, State.afterWrite_guarded _ _ (guarded _ (by omega)),
    State.afterWrite_guarded _ _ (guarded _ (by omega))]

/-- In RAM the round trip answers the word pushed. -/
theorem PushPop.ram (above : s.cfg.romBoundary + 2 < s.sp.toNat) (inside : s.sp.toNat ≤ s.cfg.memSize)
    (plainLow : ¬ s.Mirrored (s.sp.toNat - 2)) (plainHigh : ¬ s.Mirrored (s.sp.toNat - 1)) :
    PushPop s w (s.sp - 2) w s.sp := by
  obtain ⟨high, low⟩ := State.afterPush_ram w above plainLow plainHigh
  exact PushPop.of_unguarded w above.le inside (by rw [high, low, cat_hi8_lo8])

/-- At the boundary the round trip answers the high byte pushed and the low byte of before. -/
theorem PushPop.boundary (boundary : s.sp.toNat = s.cfg.romBoundary + 2) (inside : s.sp.toNat ≤ s.cfg.memSize)
    (plainHigh : ¬ s.Mirrored (s.sp.toNat - 1)) :
    PushPop s w (s.sp - 2) (cat (hi8 w) (s.readByte s.cfg.romBoundary)) s.sp := by
  obtain ⟨high, low⟩ := State.afterPush_boundary w boundary plainHigh
  exact PushPop.of_unguarded w boundary.ge inside (by rw [high, low])

/-- The stack guard moves SP to 0 after the push, so the pop reads addresses 0 and 1 (R403). -/
theorem PushPop.rom (two_le : 2 ≤ s.sp.toNat) (below : s.sp.toNat ≤ s.cfg.romBoundary + 1)
    (buffer : 2 ≤ s.cfg.memSize) :
    PushPop s w 0 (cat (s.readByte 1) (s.readByte 0)) (if 2 < s.cfg.romBoundary then 0 else 2) := by
  have guarded (a : Nat) (h : a < s.sp.toNat) : s.Writable a := .inl ((s.remap_le a).trans (by omega))
  exact {
    pushable := State.pushable_of_writable two_le (guarded _ (by omega)) (guarded _ (by omega))
    lowered := guardSp_below (by rw [State.sp_sub_two_toNat two_le]; omega)
    poppable := buffer
    popped := by rw [State.afterPush_rom w two_le below]; rfl
    raised := by simp [guardSp, Nat.not_lt.2 buffer] }

end Ranges

/-- Settles O43: in each range of SP a push and a pop make one round trip of a word, whichever word is pushed. -/
theorem pushThenPopRoundTrip : Obligations.PushThenPopRoundTrip := by
  intro s config wf running
  obtain ⟨memSize, -, -, -, -, layout⟩ := config
  refine ⟨fun above inside plainLow plainHigh => ⟨fun p bytes => ?_, fun bytes => ?_⟩,
    fun two_le below => ⟨fun p bytes => ?_, fun bytes => ?_⟩,
    fun boundary inside plainHigh => ⟨fun p bytes => ?_, fun bytes => ?_⟩⟩
  · obtain ⟨t, ht, hsp, -, pops⟩ := (PushPop.ram _ above inside plainLow plainHigh).pair_steps running wf bytes
    obtain ⟨high, low⟩ := State.afterPush_ram (s.pair p) above plainLow plainHigh
    refine ⟨t, ht, hsp, fun popBytes => ?_⟩
    obtain ⟨u, hu, hpair, husp, hmem⟩ := pops popBytes
    exact ⟨u, hu, hpair, husp, (hmem _).trans high, (hmem _).trans low⟩
  · obtain ⟨t, ht, hsp, -, pops⟩ := (PushPop.ram _ above inside plainLow plainHigh).psw_steps running wf bytes
    refine ⟨t, ht, hsp, fun popBytes => ?_⟩
    obtain ⟨u, hu, ha, hflags, husp⟩ := pops popBytes
    exact ⟨u, hu, ha, hflags.trans (unpackFlags_packFlags layout s.flags), husp⟩
  · obtain ⟨t, ht, hsp, hmem, pops⟩ := (PushPop.rom _ two_le below (by omega)).pair_steps running wf bytes
    rw [State.afterPush_rom _ two_le below] at hmem
    refine ⟨t, ht, hsp, hmem, fun popBytes => ?_⟩
    obtain ⟨u, hu, hpair, husp, -⟩ := pops popBytes
    exact ⟨u, hu, hpair, husp⟩
  · obtain ⟨t, ht, hsp, hmem, pops⟩ := (PushPop.rom _ two_le below (by omega)).psw_steps running wf bytes
    rw [State.afterPush_rom _ two_le below] at hmem
    refine ⟨t, ht, hsp, hmem, fun popBytes => ?_⟩
    obtain ⟨u, hu, ha, hflags, husp⟩ := pops popBytes
    refine ⟨u, hu, ha, ?_⟩
    rw [hflags]
    exact ⟨rfl, rfl, rfl, rfl, rfl, husp⟩
  · obtain ⟨t, ht, hsp, -, pops⟩ := (PushPop.boundary _ boundary inside plainHigh).pair_steps running wf bytes
    refine ⟨t, ht, hsp, fun popBytes => ?_⟩
    obtain ⟨u, hu, hpair, husp, -⟩ := pops popBytes
    exact ⟨u, hu, husp, hpair⟩
  · obtain ⟨t, ht, hsp, -, pops⟩ := (PushPop.boundary _ boundary inside plainHigh).psw_steps running wf bytes
    refine ⟨t, ht, hsp, fun popBytes => ?_⟩
    obtain ⟨u, hu, ha, hflags, husp⟩ := pops popBytes
    refine ⟨u, hu, husp, ha.trans (hi8_cat ..), ?_⟩
    rw [hflags]
    exact ⟨rfl, rfl, rfl, rfl, rfl⟩

end Sys2Proof.Machine
end

section
/-! The branches (spec/45_branch.md): a conditional form is its unconditional form or does nothing, each unconditional
form once, and the call/return law over whole steps (R932). -/

namespace Sys2Proof.Machine

/-! ## Condition codes -/

theorem condHolds_iff (f : Flags) (cc : Cond) : condHolds f cc = true ↔ CondTrue f cc := by
  cases cc <;> simp [condHolds, CondTrue]

/-- R411: a conditional form `i` is its unconditional form `j` when its condition is true, and does nothing when it is
false. -/
theorem Meaning.conditional {i j : Instr} {cc : Cond} {op : State → Except Fault State}
    (hi : Meaning i fun s => if condHolds s.flags cc then op s else .ok s) (hj : Meaning j op) (s : State) :
    (CondTrue s.flags cc → exec i s = exec j s) ∧ (¬ CondTrue s.flags cc → exec i s = .next s) := by
  rw [hi.exec_eq, hj.exec_eq, ← condHolds_iff]
  exact ⟨fun taken => by rw [if_pos taken], fun untaken => by rw [if_neg untaken, finish]⟩

/-! ## Jumps -/

/-- A change of PC alone leaves the registers, the control state, the flags, SP and memory as before. -/
theorem setPc_frame (s : State) (w : Word) :
    Keeps [] s { s with pc := w } ∧ { s with pc := w }.flags = s.flags ∧ { s with pc := w }.sp = s.sp ∧
      SameMemory s { s with pc := w } :=
  ⟨{ regs := fun r _ => by cases r <;> rfl
     ie := rfl, ivec := rfl, status := rfl, cyc := rfl, cfg := rfl
     portAnswers := rfl, inCount := rfl, outTrace := rfl, hostCalls := rfl }, rfl, rfl, fun _ => rfl⟩

/-- Settles O47: a jump is a change of PC alone, a taken Jcc is JMP, and an untaken one does nothing. -/
theorem jumpsSetPcOnly : Obligations.JumpsSetPcOnly := by
  intro s cc w
  have jumped : exec (.jmp w) s = .next { s with pc := w } := (Meaning.jmp w).exec_eq s
  have toHl : exec .pchl s = .next { s with pc := s.pair .hl } := Meaning.pchl.exec_eq s
  obtain ⟨onTrue, onFalse⟩ := (Meaning.jcc cc w).conditional (.jmp w) s
  refine ⟨⟨_, jumped, rfl, setPc_frame s w⟩, ?_, ⟨_, toHl, cat_toNat s.h s.l, setPc_frame s _⟩⟩
  by_cases taken : CondTrue s.flags cc
  · exact ⟨_, (onTrue taken).trans jumped, fun _ => rfl, fun untaken => absurd taken untaken, setPc_frame s w⟩
  · exact ⟨s, onFalse taken, fun h => absurd h taken, fun _ => rfl, setPc_frame s s.pc⟩

/-! ## Calls -/

/-- A call that raises no fault pushes PC, goes to its target, and changes nothing else (R910). -/
theorem finish_callTo {s : State} (w : Word) (wf : Memory.wf s.mem) (pushable : s.Pushable) :
    ∃ t, finish (callTo w s) = .next t ∧ t.pc = w ∧ t.sp = s.sp - 2 ∧ Keeps [] s t ∧ t.flags = s.flags ∧
      ∀ x, t.readByte x = s.afterPush s.pc x := by
  obtain ⟨t, ht, hsp, hkeeps, hflags, -, hread⟩ := finish_push16 s.pc wf pushable
  have called : callTo w s = .ok { t with pc := w } := bind_eq_ok.2 ⟨t, finish_next.1 ht, rfl⟩
  exact ⟨_, finish_next.2 called, rfl, hsp, hkeeps.trans (setPc_frame t w).1, hflags, hread⟩

/-- R930: the entry address of RST n, as a word. -/
theorem rstEntry_toNat (n : RstNum) : (BitVec.ofNat 16 (8 * rstNumber n)).toNat = 8 * rstNumber n := by
  cases n <;> rfl

/-- Settles O48: CALL and RST are one call, of the operand or of the entry address; a taken Ccc is CALL, and an untaken
one does nothing. -/
theorem callsPushTheReturnAddress : Obligations.CallsPushTheReturnAddress := by
  intro s i target
  refine ⟨fun form wf pushable => ?_, ?_⟩
  · have called : ∃ w : Word, exec i s = finish (callTo w s) ∧ w.toNat = target := by
      obtain ⟨w, rfl, rfl⟩ | ⟨n, rfl, rfl⟩ | ⟨cc, w, rfl, taken, rfl⟩ := form
      · exact ⟨w, (Meaning.call w).exec_eq s, rfl⟩
      · exact ⟨_, (Meaning.rst n).exec_eq s, rstEntry_toNat n⟩
      · have asCall := ((Meaning.ccc cc w).conditional (.call w) s).1 taken
        exact ⟨w, asCall.trans ((Meaning.call w).exec_eq s), rfl⟩
    obtain ⟨w, executed, rfl⟩ := called
    obtain ⟨t, ht, rfl, frame⟩ := finish_callTo w wf pushable
    exact ⟨t, executed.trans ht, rfl, frame⟩
  · rintro ⟨cc, w, rfl, untaken⟩
    exact ((Meaning.ccc cc w).conditional (.call w) s).2 untaken

/-! ## Returns -/

/-- RET moves SP and PC (R920). -/
theorem exec_ret {s : State} (poppable : s.Poppable) :
    exec .ret s = .next { s with sp := s.sp + 2, pc := s.top } := by
  rw [Meaning.ret.exec_eq, State.returnFrom, State.pop16_poppable poppable]
  rfl

/-- Settles O49: RET changes SP and PC alone, a taken Rcc is RET, and an untaken one does nothing. -/
theorem returnsPopPc : Obligations.ReturnsPopPc := by
  intro s i
  refine ⟨fun form poppable => ?_, ?_⟩
  · have asRet : exec i s = exec .ret s := by
      obtain rfl | ⟨cc, rfl, taken⟩ := form
      · rfl
      · exact ((Meaning.rcc cc).conditional .ret s).1 taken
    have moved := keeps_of_mem_sp s s.mem (s.sp + 2)
    exact ⟨_, asRet.trans (exec_ret poppable), rfl, rfl, moved.trans (setPc_frame _ s.top).1, rfl, fun _ => rfl⟩
  · rintro ⟨cc, rfl, untaken⟩
    exact ((Meaning.rcc cc).conditional .ret s).2 untaken

/-! ## A whole step of a call or a return -/

/-- The step on an instruction's bytes, when its meaning past them completes, adds the cost and runs the guards on what
the meaning leaves (R401, R405). -/
theorem stepInstr_completes {s t : State} {i : Instr} (running : s.status = .running)
    (bytes : s.BytesAtPc (encode i) s.pc)
    (executed : exec i { s with pc := s.pc + BitVec.ofNat 16 (encode i).length } = .next t) :
    stepInstr s = .next (completeStep (cycleCostOf s.cfg i.opcode) t) := by
  rw [stepInstr_of_fetch running (fetchInstr_of_announces (announces_encoding i) bytes)]
  exact congrArg (mapNext _) executed

/-- A whole step of CALL pushes the address after its three bytes and goes to its operand (R910). -/
theorem stepInstr_call {s : State} {w : Word} (running : s.status = .running) (wf : Memory.wf s.mem)
    (pushable : s.Pushable) (bytes : s.BytesAtPc (encode (.call w)) s.pc) :
    ∃ t, stepInstr s = .next t ∧ (w.toNat ≤ s.cfg.memSize → t.pc = w) ∧ PushedStep (s.pc + 3) s t := by
  obtain ⟨t, ht, rfl, hsp, hkeeps, hflags, hread⟩ := finish_callTo (s := { s with pc := s.pc + 3 }) w wf pushable
  have stepped := stepInstr_completes running bytes (((Meaning.call t.pc).exec_eq _).trans ht)
  rw [completeStep_eq, hkeeps.cfg, hsp] at stepped
  exact ⟨_, stepped, fun inside => if_neg (Nat.not_lt.2 inside), rfl, hkeeps.status, rfl, hflags, hread⟩

/-- A whole step of RET goes to the address at the top of the stack and raises SP (R920). -/
theorem stepInstr_ret {s : State} (running : s.status = .running) (poppable : s.Poppable)
    (bytes : s.BytesAtPc (encode .ret) s.pc) :
    ∃ t, stepInstr s = .next t ∧ (s.top.toNat ≤ s.cfg.memSize → t.pc = s.top) ∧
      t.sp = guardSp s.cfg (s.sp + 2) := by
  have stepped := stepInstr_completes running bytes (exec_ret poppable)
  rw [completeStep_eq] at stepped
  exact ⟨_, stepped, fun inside => if_neg (Nat.not_lt.2 inside), rfl⟩

/-! ## The call/return law (R932) -/

theorem step_of_no_hostCalls {s : State} (h : s.hostCalls = []) : step s = stepInstr s := by
  rw [step, nextOperation, h]

/-- The address after an instruction of three bytes in the buffer is one that the PC guard leaves alone (R404). -/
theorem pc_after_three_bytes_le {s : State} {b₀ b₁ b₂ : Byte} (bytes : s.BytesAtPc [b₀, b₁, b₂] s.pc) :
    (s.pc + 3).toNat ≤ s.cfg.memSize := by
  obtain ⟨-, -, -, -, last, -⟩ := bytes
  bv_omega

/-- The premise and the answer of a pop are those of any state with the same configuration, SP and two stack bytes. -/
theorem poppable_and_top_congr {t u : State} (cfg : u.cfg = t.cfg) (sp : u.sp = t.sp)
    (low : u.readByte t.sp.toNat = t.readByte t.sp.toNat)
    (high : u.readByte (t.sp.toNat + 1) = t.readByte (t.sp.toNat + 1)) :
    (t.Poppable → u.Poppable) ∧ u.top = t.top := by
  rw [State.Poppable, State.Poppable, State.top, State.top, cfg, sp, low, high]
  exact ⟨id, rfl⟩

/-- Settles O50: CALL and RET make the round trip of R810 with the return address as the word pushed. -/
theorem callReturnLaw : Obligations.CallReturnLaw := by
  intro s w _ wf noCalls running bytes above inside plainLow plainHigh
  have roundTrip := PushPop.ram (s.pc + 3) above inside plainLow plainHigh
  obtain ⟨t, ht, hpc, pushed⟩ := stepInstr_call running wf roundTrip.pushable bytes
  obtain ⟨-, poppable, htop, raised⟩ := roundTrip.of_pushedStep pushed
  refine ⟨t, (step_of_no_hostCalls noCalls).trans ht, hpc, fun u ucfg uCalls uRunning usp low high retBytes => ?_⟩
  obtain ⟨uPoppable, utop⟩ := poppable_and_top_congr (ucfg.trans pushed.cfg.symm) usp low high
  obtain ⟨v, hv, vpc, vsp⟩ := stepInstr_ret uRunning (uPoppable poppable) retBytes
  rw [utop, htop, ucfg] at vpc
  rw [usp, ucfg, ← pushed.cfg, raised] at vsp
  exact ⟨v, (step_of_no_hostCalls uCalls).trans hv, vpc (pc_after_three_bytes_le bytes), vsp⟩

end Sys2Proof.Machine
end

section
/-! I/O (spec/46_io.md): the answer of the host's input port, and the two forms that use the port bridge. -/

namespace Sys2Proof.Machine

/-- R1002: the answer is the head of the queue, or the oracle's value when the queue is empty; the queue loses its head,
if it has one, and the answer is counted. -/
theorem State.portIn_eq (s : State) (p : Byte) :
    s.portIn p = (s.portAnswers.headD (Config.portInOracle s.inCount p s.outTrace),
      { s with portAnswers := s.portAnswers.tail, inCount := s.inCount + 1 }) := by
  cases hq : s.portAnswers with
  | nil => simp only [State.portIn, hq, List.headD_nil, List.tail_nil]
  | cons v vs => simp only [State.portIn, hq, List.headD_cons, List.tail_cons]

/-- IN moves the port record on by one answer and writes that answer to A (R1000). -/
theorem exec_inp (s : State) (p : Byte) :
    exec (.inp p) s = .next
      ({ s with portAnswers := s.portAnswers.tail, inCount := s.inCount + 1 }.setReg .a
        (s.portAnswers.headD (Config.portInOracle s.inCount p s.outTrace))) := by
  rw [(Meaning.inp p).exec_eq, inputPort, State.portIn_eq]
  rfl

/-- Settles O51: IN is one move of the port record and one write of A, so every other field is as before. -/
theorem inputPutsTheHostsAnswerInA : Obligations.InputPutsTheHostsAnswerInA := by
  intro s p
  refine ⟨_, exec_inp s p, fun v vs listed => ?_, fun empty => ?_, rfl, fun r other => ?_,
    rfl, rfl, rfl, fun _ => rfl, rfl, rfl, rfl, rfl, rfl, rfl, rfl⟩
  · rw [listed]
    exact ⟨rfl, rfl⟩
  · rw [empty]
    exact ⟨rfl, rfl⟩
  · rw [State.reg_setReg, if_neg other]
    cases r <;> rfl

/-- Settles O52: OUT is one call of the host's output port, with A as the value. -/
theorem outputAppendsOneEvent : Obligations.OutputAppendsOneEvent := fun s p =>
  (Meaning.out p).exec_eq s

end Sys2Proof.Machine
end

section
/-! The faults of the stack (spec/60_exceptions.md R1202): a push faults at the first byte it may not write, a pop and
XTHL at the first byte they may not read, and so does every form that begins with one of them. -/

namespace Sys2Proof.Machine

/-- An operation that completes hands its answer on (R401). -/
theorem bind_of_ok {α β : Type} {x : Except Fault α} {a : α} (h : x = .ok a) (f : α → Except Fault β) :
    x >>= f = f a := by
  rw [h]
  rfl

/-- A fault of an operation ends the sequence that begins with it (R1205). -/
theorem bind_of_error {α β : Type} {x : Except Fault α} {r : Fault} (h : x = .error r) (f : α → Except Fault β) :
    x >>= f = .error r := by
  rw [h]
  rfl

/-- A fault of the operation of an instruction's form is the instruction's own (R1205). -/
theorem Meaning.exec_fault {i : Instr} {op : State → Except Fault State} (hm : Meaning i op) {s : State} {r : Fault}
    (h : op s = .error r) : exec i s = .fault r := by
  rw [hm.exec_eq, h, finish]

/-! ## The pushing forms -/

/-- The high byte is written first, so its fault comes first (R800). -/
theorem State.push16_high_fault {s : State} (w : Word) (high : ¬ s.Writable ((s.sp - 2).toNat + 1)) :
    s.push16 w = .error (.memoryOutOfRange (s.remap ((s.sp - 2).toNat + 1))) :=
  bind_of_error (State.write8_fault (s := { s with sp := s.sp - 2 }) (hi8 w) high) _

/-- The high byte has been written when the low byte faults, and that write moves no address (R204, R800). -/
theorem State.push16_low_fault {s : State} (w : Word) (high : s.Writable ((s.sp - 2).toNat + 1))
    (low : ¬ s.Writable (s.sp - 2).toNat) : s.push16 w = .error (.memoryOutOfRange (s.remap (s.sp - 2).toNat)) := by
  obtain ⟨u, hu, stored, -⟩ := State.write8_writable (s := { s with sp := s.sp - 2 }) (hi8 w) high
  obtain ⟨-, -, lowered, -⟩ := stored.frame
  have faulted : u.write8 u.sp.toNat (lo8 w) = .error (.memoryOutOfRange (s.remap (s.sp - 2).toNat)) := by
    rw [lowered, State.write8_fault _ (mt (State.writable_congr stored.cfg_eq _).1 low),
      State.remap_congr stored.cfg_eq]
    rfl
  exact (bind_of_ok hu _).trans faulted

/-- A call pushes before it does anything else (R910, R930). -/
theorem callTo_fault {s : State} {r : Fault} (w : Word) (h : s.push16 s.pc = .error r) : callTo w s = .error r :=
  bind_of_error h _

/-- Settles O45: every pushing form begins with a push of some word, and has the fault of that push. -/
theorem pushesOutsideTheBufferFault : Obligations.PushesOutsideTheBufferFault := by
  intro s i form
  have pushes : ∃ w, ∀ r, s.push16 w = .error r → exec i s = .fault r := by
    obtain ⟨p, rfl⟩ | rfl | ⟨w, rfl⟩ | ⟨n, rfl⟩ | ⟨cc, w, rfl, taken⟩ := form
    · exact ⟨s.pair p, fun _ => (Meaning.push p).exec_fault⟩
    · exact ⟨_, fun _ => Meaning.pushPSW.exec_fault⟩
    · exact ⟨s.pc, fun _ h => (Meaning.call w).exec_fault (callTo_fault w h)⟩
    · exact ⟨s.pc, fun _ h => (Meaning.rst n).exec_fault (callTo_fault _ h)⟩
    · have asCall := ((Meaning.ccc cc w).conditional (.call w) s).1 taken
      exact ⟨s.pc, fun _ h => asCall.trans ((Meaning.call w).exec_fault (callTo_fault w h))⟩
  obtain ⟨w, faults⟩ := pushes
  exact ⟨fun high => faults _ (State.push16_high_fault w high),
    fun high low => faults _ (State.push16_low_fault w high low)⟩

/-! ## The popping forms and XTHL -/

/-- A pop is a 16-bit read at SP, and then SP rises by 2 (R801). -/
theorem State.pop16_eq (s : State) :
    s.pop16 = s.read16 s.sp.toNat >>= fun w => .ok (w, { s with sp := s.sp + 2 }) := by
  simp only [State.pop16, State.read16, bind_assoc]
  rfl

/-- A pop has the fault of its read (R801). -/
theorem State.pop16_fault {s : State} {r : Fault} (h : s.read16 s.sp.toNat = .error r) : s.pop16 = .error r := by
  rw [State.pop16_eq]
  exact bind_of_error h _

/-- RET pops before it does anything else (R920). -/
theorem State.returnFrom_fault {s : State} {r : Fault} (h : s.read16 s.sp.toNat = .error r) :
    s.returnFrom = .error r :=
  bind_of_error (State.pop16_fault h) _

/-- XTHL is a 16-bit read at SP, and then the two writes of HL and the change of HL (R808). -/
theorem exchangeTop_eq (s : State) :
    exchangeTop s = s.read16 s.sp.toNat >>= fun w =>
      s.write16 s.sp.toNat (s.pair .hl) >>= fun t => .ok (t.setPair .hl w) := by
  simp only [exchangeTop, State.read16, State.write16, State.pair, State.setPair, hi8_cat, lo8_cat, bind_assoc,
    bind_of_ok rfl]

/-- Settles O46: every one of these forms begins with a 16-bit read at SP, and has the fault of that read. -/
theorem popsOutsideTheBufferFault : Obligations.PopsOutsideTheBufferFault := by
  intro s i form
  have pops : ∀ r, s.read16 s.sp.toNat = .error r → exec i s = .fault r := by
    intro r h
    obtain ⟨p, rfl⟩ | rfl | rfl | rfl | ⟨cc, rfl, taken⟩ := form
    · exact (Meaning.pop p).exec_fault (bind_of_error (State.pop16_fault h) _)
    · exact Meaning.popPSW.exec_fault (bind_of_error (State.pop16_fault h) _)
    · exact Meaning.ret.exec_fault (State.returnFrom_fault h)
    · exact Meaning.xthl.exec_fault ((exchangeTop_eq s).trans (bind_of_error h _))
    · have asRet := ((Meaning.rcc cc).conditional .ret s).1 taken
      exact asRet.trans (Meaning.ret.exec_fault (State.returnFrom_fault h))
  exact ⟨fun low => pops _ (State.read16_low_out low), fun high => pops _ (State.read16_high_out high)⟩

end Sys2Proof.Machine
end

section
/-! The interrupt (spec/60_exceptions.md R1206 to R1213): what an accepted one leaves, and the return from it. -/

namespace Sys2Proof.Machine

/-- The entry address of a vector, as a word (R1209). -/
theorem vectorEntry_toNat (v : IntVector) : (BitVec.ofNat 16 (8 * vectorNumber v)).toNat = 8 * vectorNumber v := by
  cases v <;> rfl

/-- A change of CYC and IE leaves every register alone. -/
theorem State.reg_setCycIe (s : State) (n : Nat) (b : Bool) (r : Reg) :
    State.reg { s with cyc := n, ie := b } r = s.reg r := by cases r <;> rfl

section Accepted
variable {s : State} {v : IntVector} (running : s.status = .running) (enabled : s.ie = true)
  (vector : s.ivec = some v)
include running enabled vector

/-- With IE true and a vector set, a running core takes the interrupt (R1209). -/
theorem generateInterrupt_accepted : generateInterrupt s = finish (takeInterrupt v s) := by
  simp only [generateInterrupt, running, enabled, vector, if_true]

/-- An accepted interrupt whose push raises no fault is a call of the vector's entry, then 11 cycles and IE clear
(R1209). -/
theorem generateInterrupt_enters (wf : Memory.wf s.mem) (pushable : s.Pushable) :
    ∃ u, generateInterrupt s = .next { u with cyc := u.cyc + 11, ie := false } ∧
      u.pc = BitVec.ofNat 16 (8 * vectorNumber v) ∧ u.sp = s.sp - 2 ∧ Keeps [] s u ∧ u.flags = s.flags ∧
      ∀ x, u.readByte x = s.afterPush s.pc x := by
  obtain ⟨u, called, frame⟩ := finish_callTo (BitVec.ofNat 16 (8 * vectorNumber v)) wf pushable
  refine ⟨u, (generateInterrupt_accepted running enabled vector).trans (finish_next.2 ?_), frame⟩
  exact bind_eq_ok.2 ⟨u, finish_next.1 called, rfl⟩

/-- An accepted interrupt has the fault of its push (R1202, R1209). -/
theorem generateInterrupt_fault {r : Fault} (h : s.push16 s.pc = .error r) : generateInterrupt s = .fault r := by
  have faulted : takeInterrupt v s = .error r := bind_of_error (callTo_fault _ h) _
  rw [generateInterrupt_accepted running enabled vector, faulted, finish]

end Accepted

/-- Settles O12: the tests of STATUS, IE and IVEC, then what the accepted interrupt's push answers. -/
theorem generateInterruptEntersTheVector : Obligations.GenerateInterruptEntersTheVector := by
  refine fun s => ⟨fun stopped => if_neg stopped, fun running wf => ⟨fun disabled => ?_, fun enabled unset => ?_,
    fun v enabled vector pushable => ?_, fun v enabled vector high => ?_, fun v enabled vector high low => ?_⟩⟩
  · simp only [generateInterrupt, running, disabled, if_true, Bool.false_eq_true, if_false]
  · simp only [generateInterrupt, running, enabled, unset, if_true]
  · obtain ⟨u, hu, hpc, hsp, kept, hflags, hmem⟩ := generateInterrupt_enters running enabled vector wf pushable
    refine ⟨_, hu, ?_, hsp, hmem, congrArg (· + 11) kept.cyc, rfl, hflags, fun r => ?_, kept.status.trans running,
      kept.ivec, kept.cfg, kept.portAnswers, kept.inCount, kept.outTrace, kept.hostCalls⟩
    · rw [hpc, vectorEntry_toNat]
    · rw [State.reg_setCycIe, kept.regs r List.not_mem_nil]
  · exact generateInterrupt_fault running enabled vector (State.push16_high_fault s.pc high)
  · exact generateInterrupt_fault running enabled vector (State.push16_low_fault s.pc high low)

/-- Settles O13: the interrupt and RET make the round trip of R810 with the interrupted PC as the word pushed. -/
theorem retResumesAfterAnInterrupt : Obligations.RetResumesAfterAnInterrupt := by
  intro s v running enabled vector _ wf above inside plainLow plainHigh
  have roundTrip := PushPop.ram s.pc above inside plainLow plainHigh
  obtain ⟨u, hu, -, hsp, kept, hflags, hmem⟩ := generateInterrupt_enters running enabled vector wf roundTrip.pushable
  have poppable : u.Poppable := by
    rw [State.Poppable, hsp, kept.cfg]
    exact roundTrip.poppable
  have interrupted : u.top = s.pc := by
    rw [State.top, hmem, hmem, hsp]
    exact roundTrip.popped
  obtain ⟨w, returned, hpc, raised, keptByRet, flagsByRet, -⟩ :=
    (returnsPopPc { u with cyc := u.cyc + 11, ie := false } .ret).1 (.inl rfl) poppable
  refine ⟨_, w, hu, returned, hpc.trans interrupted, ?_, keptByRet.ie, flagsByRet.trans hflags, fun r => ?_⟩
  · rw [raised, hsp, BitVec.sub_add_cancel]
  · rw [keptByRet.regs r List.not_mem_nil, State.reg_setCycIe, kept.regs r List.not_mem_nil]

end Sys2Proof.Machine
end

section
/-! The special instructions (spec/47_special.md), the host's calls and the terminal faults (spec/60_exceptions.md R1201,
R1205, R1208, R1216). -/

namespace Sys2Proof.Machine

/-- Settles O53: each is its operation, one record update at most. -/
theorem specialInstructionsChangeOneThing : Obligations.SpecialInstructionsChangeOneThing := fun s =>
  ⟨Meaning.nop.exec_eq s, Meaning.hlt.exec_eq s, Meaning.ei.exec_eq s, Meaning.di.exec_eq s⟩

/-- R308: the byte of an opcode without a handler is the whole instruction. -/
theorem announces_unimpl (o : BadOpcode) : Announces o.byte (.unimpl o) [] := by
  cases o <;> exact .f1 rfl

/-- Settles O17: the fetch has moved PC past the one byte, so the fault's address is that of the opcode. -/
theorem opcodesWithoutAHandlerFault : Obligations.OpcodesWithoutAHandlerFault := by
  intro o s
  have faulted (t : State) : exec (.unimpl o) t = .fault (.unimplementedOpcode o.byte (t.pc - 1)) :=
    (Meaning.unimpl o).exec_fault rfl
  refine ⟨faulted s, fun running backed opcode => ?_⟩
  have fetched := fetchInstr_of_announces (announces_unimpl o) ⟨backed, opcode, trivial⟩
  rw [stepInstr_of_fetch running fetched, faulted]
  exact congrArg (fun a => Host.Outcome.fault (Fault.unimplementedOpcode o.byte a)) (BitVec.add_sub_cancel s.pc 1)

/-- Settles O5: the next operation is a match on the list of host calls. -/
theorem stepPerformsTheHostsNextCall : Obligations.StepPerformsTheHostsNextCall := by
  intro s n cs
  have dequeues (c : HostCall) (listed : s.hostCalls = c :: cs) : step s = hostCall c { s with hostCalls := cs } := by
    rw [step, nextOperation, listed]
  exact ⟨step_of_no_hostCalls, dequeues .step, dequeues (.setVector n), dequeues .generateInterrupt⟩

/-- Settles O8: after a fault STATUS is not `Running`, so no operation is admitted. -/
theorem faultsAreTerminal : Obligations.FaultsAreTerminal := by
  intro s r faulted
  have status : (afterOperation s (step s)).status = .faulted r := by rw [faulted, afterOperation]
  refine ⟨status, fun c => nothingIsAdmittedUnlessRunning _ c ?_⟩
  rw [status]
  exact nofun

/-- R1208: the vectors are those with the numbers 1 to 7. -/
theorem vectorOf_vectorNumber (v : IntVector) : vectorOf (vectorNumber v) = some v := by
  cases v <;> rfl

theorem exists_vectorNumber_eq {n : Nat} (h : vectorWf n) : ∃ v, vectorNumber v = n := by
  obtain ⟨low, high⟩ := h
  interval_cases n
  · exact ⟨.v1, rfl⟩
  · exact ⟨.v2, rfl⟩
  · exact ⟨.v3, rfl⟩
  · exact ⟨.v4, rfl⟩
  · exact ⟨.v5, rfl⟩
  · exact ⟨.v6, rfl⟩
  · exact ⟨.v7, rfl⟩

theorem vectorOf_eq_none {n : Nat} (h : ¬ vectorWf n) : vectorOf n = none := by
  unfold vectorOf
  split
  case h_8 => rfl
  all_goals exact absurd (by decide) h

/-- Settles O11: on a running core `set_vector` looks its number up among the seven. -/
theorem setVectorAdmitsOneToSeven : Obligations.SetVectorAdmitsOneToSeven := by
  intro s n running
  refine ⟨fun inRange => ?_, fun outside => ?_⟩
  · obtain ⟨v, rfl⟩ := exists_vectorNumber_eq inRange
    refine ⟨v, rfl, ?_⟩
    simp only [setVector, running, vectorOf_vectorNumber, if_true]
  · simp only [setVector, running, vectorOf_eq_none outside, if_true]

end Sys2Proof.Machine
end

section
/-! Memory at construction (spec/70_reset_and_hazards.md R1300, R1301): each image's bytes at its place, every other
byte 0. -/

namespace Sys2Proof.Machine

/-- Loading a run of bytes puts each at its place. -/
theorem Memory.read_load_in (bs : List Byte) : ∀ (m : Memory) (a k : Nat) (h : k < bs.length), Memory.wf m →
    Memory.read (Memory.load m a bs) (a + k) = bs[k] := by
  induction bs with
  | nil => exact fun _ _ k h => absurd h k.not_lt_zero
  | cons b bs ih =>
    intro m a k h wf
    cases k with
    | zero =>
      rw [Memory.load, Memory.read_load_out _ _ _ _ (by omega)]
      exact Memory.read_write_self _ _ _ wf
    | succ k =>
      rw [Memory.load, show a + (k + 1) = a + 1 + k by omega]
      exact ih _ _ _ (Nat.lt_of_succ_lt_succ h) (Memory.wf_write _ _ _ wf)

/-- An address that no image covers reads as 0 (R114, R1301). -/
theorem read_imageMemory_uncovered {is : List Image} {x : Nat} (h : ∀ i ∈ is, ¬ (i.offset ≤ x ∧ x < i.stop)) :
    Memory.read (imageMemory is) x = 0 := by
  induction is with
  | nil => rfl
  | cons i is ih =>
    obtain ⟨outside, others⟩ := List.forall_mem_cons.1 h
    simp only [Image.stop] at outside
    rw [imageMemory, Memory.read_load_out _ _ _ _ (by omega)]
    exact ih others

/-- An image's bytes are at its place, since no image placed after it covers one (R1301). -/
theorem read_imageMemory_covered {is : List Image}
    (disjoint : is.Pairwise fun i j => i.stop ≤ j.offset ∨ j.stop ≤ i.offset) {i : Image} (hi : i ∈ is) {k : Nat}
    (h : k < i.bytes.length) :
    Memory.read (imageMemory is) (i.offset + k) = i.bytes[k] := by
  induction is with
  | nil => cases hi
  | cons j is ih =>
    obtain ⟨apart, disjoint⟩ := List.pairwise_cons.1 disjoint
    rw [imageMemory]
    obtain rfl | hi := List.mem_cons.1 hi
    · exact Memory.read_load_in _ _ _ _ h (imageMemory_wf is)
    · have clear := apart i hi
      simp only [Image.stop] at clear
      rw [Memory.read_load_out _ _ _ _ (by omega)]
      exact ih disjoint hi

/-- Settles O1: the fields are set one by one, and memory is what the images leave. -/
theorem constructionGivesTheStatedResetState : Obligations.ConstructionGivesTheStatedResetState := by
  rintro cfg r images s ⟨-, disjoint⟩ rfl
  exact ⟨⟨rfl, rfl, rfl, rfl, rfl, rfl, rfl, rfl, rfl⟩, ⟨rfl, rfl, rfl, rfl, rfl, rfl⟩,
    fun _ hi _ h => read_imageMemory_covered disjoint hi h, fun _ h => read_imageMemory_uncovered h⟩

end Sys2Proof.Machine
end
